-- ==== Sys2Proof/Word.lean ====
section
/-! DEFINITION. The word types of HPIR: a bit of a frame and a sequence of bits. HPIR has no machine word
(spec/40_encoder.md R73: no width matters), so there is no word arithmetic here; the bit groups be_N and val
of spec/00_scope.md R6 stand in Sys2Proof/Decode.lean. -/

namespace Sys2Proof

/-- A bit, 0 (`false`) or 1 (`true`) (spec/00_scope.md R6). -/
abbrev Bit := Bool

/-- A bit sequence, position 0 leftmost: the most significant and first transmitted (R6). -/
abbrev Bits := List Bit

end Sys2Proof
end

