-- ==== Sys2Proof/Syntax.lean ====
section
/-! DEFINITION. The instructions of HPIR, one constructor per row of spec/opcode_table.json, and the types of their operands:
modes (spec/10_state.md R11), symbols (spec/30_encoding.md R52), pulse elements (R54), phases (spec/10_state.md R16), and the
levels and answers of the platform's primitive (spec/60_exceptions.md R124). -/

namespace Sys2Proof

/-- The source's enumeration of modes (spec/10_state.md R11). -/
inductive Mode where
  | auto | cool | heat | off
deriving DecidableEq, Repr, Inhabited

/-- A mode as presented: one of the four, or a number that codes none of them (spec/10_state.md R11, 92 D4;
log entry 21). -/
inductive ModeArg where
  | named (m : Mode)
  | other (code : Int)
deriving DecidableEq, Repr, Inhabited

/-- What one position of a frame holds for the transmitter (spec/30_encoding.md R52). What `c` ranges over is irrelevant. -/
inductive Symbol where
  | zero | one
  | other (c : Nat)
deriving DecidableEq, Repr, Inhabited

/-- The pulse elements (spec/30_encoding.md R54). -/
inductive Element where
  | hdr | bit0 | bit1 | endMarker
deriving DecidableEq, Repr, Inhabited

/-- `PHASE`, the source's state name (spec/10_state.md R16). -/
inductive Phase where
  | idle | sendingHeader
  | sendingBits (i : Nat)
  | sendingEnd | done | aborted
deriving DecidableEq, Repr, Inhabited

/-- `HALF`: mark or space (spec/10_state.md R16). -/
inductive HalfName where
  | mark | space
deriving DecidableEq, Repr, Inhabited

/-- The two levels of the carrier line (spec/10_state.md R21). -/
inductive Level where
  | on | off
deriving DecidableEq, Repr, Inhabited

/-- What a `set_carrier` call answers (spec/00_scope.md R7). -/
inductive Answer where
  | ok | fail
deriving DecidableEq, Repr, Inhabited

/-- The instructions: the three operations (spec/30_encoding.md R50), the frame format FRAME72 (R45) and the four pulse
elements (R54). -/
inductive Instr where
  /-- ENCODE mode, targetTemperature, fanSpeed (spec/40_encoder.md R65). -/
  | encode (mode : ModeArg) (temp fan : Int)
  /-- TRANSMIT frame (spec/41_transmitter.md R80). -/
  | transmit (frame : List Symbol)
  /-- SEND mode, targetTemperature, fanSpeed (spec/42_pipeline.md R105). -/
  | send (mode : ModeArg) (temp fan : Int)
  /-- FRAME72 (spec/30_encoding.md R45): temperature code, fan code, power bit (it stands twice), mode code, checksum1,
  checksum2. -/
  | frame72 (t f : BitVec 4) (p : BitVec 1) (m : BitVec 2) (c : BitVec 4) (k : BitVec 2)
  /-- HDR (spec/41_transmitter.md R87). -/
  | hdr
  /-- BIT0 (R88). -/
  | bit0
  /-- BIT1 (R89). -/
  | bit1
  /-- END (R90). -/
  | endMarker
deriving DecidableEq, Repr

end Sys2Proof
end

