-- ==== Sys2Proof/Config.lean ====
section
/-! DEFINITION. What is fixed for the machine: the parameters of spec/00_scope.md R5 as named constants, and the two free
values the spec leaves to the platform (opaque, no body: spec/93_implementation_defined.md U3, U4). -/

namespace Sys2Proof.Config

/-- `VENDOR_HEADER`, the printed literal, hex F2 0D 03 FC 01 (R5, spec/90_conflicts.md C1; log entry 20). -/
def vendorHeader : Bits :=
  [true, true, true, true, false, false, true, false,
   false, false, false, false, true, true, false, true,
   false, false, false, false, false, false, true, true,
   true, true, true, true, true, true, false, false,
   false, false, false, false, false, false, false, true]

/-- `H`, the header's width: the length of the literal (R5). -/
def headerBits : Nat := vendorHeader.length

/-- `PAYLOAD_BITS` (R5). -/
def payloadBits : Nat := 32

/-- `FRAME_BITS` = `H + 32` (R5). -/
def frameBits : Nat := headerBits + payloadBits

/-- `TEMP_MIN` (R5). -/
def tempMin : Int := 17
/-- `TEMP_MAX` (R5). -/
def tempMax : Int := 30
/-- `FAN_MIN` (R5). -/
def fanMin : Int := 0
/-- `FAN_MAX` (R5). -/
def fanMax : Int := 100
/-- `FAN_STEP` (R5). -/
def fanStep : Nat := 20

/-- `HDR_MARK`, microseconds (R5). -/
def hdrMark : Nat := 4400
/-- `HDR_SPACE` (R5). -/
def hdrSpace : Nat := 4350
/-- `BIT_MARK` (R5). -/
def bitMark : Nat := 560
/-- `ZERO_SPACE` (R5). -/
def zeroSpace : Nat := 520
/-- `ONE_SPACE` (R5). -/
def oneSpace : Nat := 1600
/-- `END_MARK`, a constant of its own although equal to `BIT_MARK` (spec/30_encoding.md R54). -/
def endMark : Nat := 560
/-- `END_SPACE` (R5). -/
def endSpace : Nat := 7450

/-- `FRAME_REPEATS` (R5, spec/90_conflicts.md C2). -/
def frameRepeats : Nat := 2

/-- `CARRIER_HZ`: recorded; no rule depends on it (R5). -/
def carrierHz : Nat := 38000

/-- `CARRIER_DUTY` in percent, "~50%": recorded; no rule depends on it (R5). -/
def carrierDutyPercent : Nat := 50

/-- The default of `MAX_FRAME_LEN`: no bound. The parameter itself is OPEN, an argument of the model: `State.maxFrameLen`
(R5, spec/92_eei_decisions.md D11; log entry 12). -/
def defaultMaxFrameLen : Option Nat := none

/-- The platform's answer to the `set_carrier` call of this number, where the state's own list of answers has run out.
A free value: nothing constrains it (U3; log entry 4). -/
opaque freeAnswer : Nat → Answer

/-- The level of the carrier line after the failed `set_carrier` call of this number. A free value (U4; log entry 5). -/
opaque freeLevel : Nat → Level

end Sys2Proof.Config
end

