-- ==== Sys2Proof/Decode.lean ====
section
/-! DEFINITION. Bit groups (spec/00_scope.md R6), the frame layout (spec/30_encoding.md R45 to R47), the encoded objects of HPIR
(section 30: the request, the frame, the symbol; HDR and END are selected by phase and have no bits), the decoder, total on all of
them and rejecting by name, and the encoder written from the same tables. -/

namespace Sys2Proof

/-! ### Bit groups -/

/-- `be_N(v)`: the N-bit big-endian bit group of `v` (spec/00_scope.md R6). -/
def be : Nat → Nat → Bits
  | 0, _ => []
  | n + 1, v => v.testBit n :: be n v

/-- `val(s)`: the number whose big-endian bit group is `s` (spec/00_scope.md R6). -/
def bitsVal : Bits → Nat
  | [] => 0
  | b :: s => b.toNat * 2 ^ s.length + bitsVal s

/-- `zeros(N)` (spec/00_scope.md R6). -/
def zeroBits (n : Nat) : Bits := List.replicate n false

/-- `s[off .. off+n-1]`, positions counted from the end of the header (spec/30_encoding.md R47). -/
def payloadField (s : Bits) (off n : Nat) : Bits := (s.drop (Config.headerBits + off)).take n

/-! ### The frame layout -/

/-- Field assembly (spec/30_encoding.md R46): the segments of the layout table R45 in order. -/
def assembleFrame (temperatureCode fanCode powerBit modeCode checksum1 checksum2 : Nat) : Bits :=
  Config.vendorHeader
    ++ be 4 temperatureCode ++ zeroBits 4
    ++ be 4 fanCode ++ zeroBits 1 ++ be 1 powerBit ++ be 2 modeCode
    ++ zeroBits 8
    ++ be 4 checksum1 ++ zeroBits 1 ++ be 1 powerBit ++ be 2 checksum2

/-- The fields of a frame, as R47 parses them. -/
structure FrameFields where
  temperatureCode : Nat
  fanCode : Nat
  powerBit : Nat
  modeCode : Nat
  checksum1 : Nat
  powerBitRepeat : Nat
  checksum2 : Nat
deriving DecidableEq, Repr

/-- Re-parsing a frame (spec/30_encoding.md R47): for the decoder of table words, laws and tests; no step of the machine parses a
frame. -/
def parseFrame (s : Bits) : FrameFields where
  temperatureCode := bitsVal (payloadField s 0 4)
  fanCode := bitsVal (payloadField s 8 4)
  powerBit := bitsVal (payloadField s 13 1)
  modeCode := bitsVal (payloadField s 14 2)
  checksum1 := bitsVal (payloadField s 24 4)
  powerBitRepeat := bitsVal (payloadField s 29 1)
  checksum2 := bitsVal (payloadField s 30 2)

/-- The padding positions of a frame (spec/30_encoding.md R45, segments 3, 5, 8 and 10). -/
def framePadding (s : Bits) : Bits :=
  payloadField s 4 4 ++ payloadField s 12 1 ++ payloadField s 16 8 ++ payloadField s 28 1

/-- The bits of a FRAME72 with these fields: its encoding in the opcode table's pattern (R45). -/
def frame72Bits (t f : BitVec 4) (p : BitVec 1) (m : BitVec 2) (c : BitVec 4) (k : BitVec 2) : Bits :=
  assembleFrame t.toNat f.toNat p.toNat m.toNat c.toNat k.toNat

/-! ### Encoded objects -/

/-- An operation request as presented: the two-bit selector of spec/30_encoding.md R50 and the operand ports. An operation
reads only its own operands (log entry 1). -/
structure Request where
  op : BitVec 2
  mode : Int
  temp : Int
  fan : Int
  frame : List Symbol
deriving DecidableEq, Repr

/-- The encoded objects of HPIR (spec/30_encoding.md): a request, a frame, a symbol; and, for HDR and END, the phase that
selects them (R54). -/
inductive Code where
  | request (r : Request)
  | frame (bits : Bits)
  | symbol (y : Symbol)
  | implicit (phase : Phase)
deriving DecidableEq, Repr

/-- Why an encoded object is no instruction. -/
inductive DecodeError where
  /-- Selector 3 (spec/30_encoding.md R56). -/
  | notAnOperation
  /-- A frame object whose length is not 72 (R45). -/
  | frameLength
  /-- Its first 40 bits are not the vendor header (R45). -/
  | vendorHeader
  /-- A padding position holds 1 (R45). -/
  | padding
  /-- The repeated power bit differs from the first (R45: "same value as above"). -/
  | powerBitRepeat
  /-- An OTHER symbol: it has no pulse element (R54). -/
  | otherSymbol
  /-- A phase that selects no element by itself (R54). -/
  | noElement
deriving DecidableEq, Repr

/-! ### Decoding -/

/-- The mode a number codes (spec/10_state.md R11). -/
def ModeArg.ofCode (code : Int) : ModeArg :=
  if code = 0 then .named .auto
  else if code = 1 then .named .cool
  else if code = 2 then .named .heat
  else if code = 3 then .named .off
  else .other code

/-- The number of a mode (spec/10_state.md R11). -/
def ModeArg.code : ModeArg → Int
  | .named .auto => 0
  | .named .cool => 1
  | .named .heat => 2
  | .named .off => 3
  | .other code => code

/-- Decoding a request (spec/30_encoding.md R50, R56). -/
def decodeRequest (r : Request) : Except DecodeError Instr :=
  if r.op = 0#2 then .ok (.encode (ModeArg.ofCode r.mode) r.temp r.fan)
  else if r.op = 1#2 then .ok (.transmit r.frame)
  else if r.op = 2#2 then .ok (.send (ModeArg.ofCode r.mode) r.temp r.fan)
  else .error .notAnOperation

/-- The FRAME72 with the fields R47 reads from a bit sequence. -/
def frame72OfFields (a : FrameFields) : Instr :=
  .frame72 (BitVec.ofNat 4 a.temperatureCode) (BitVec.ofNat 4 a.fanCode) (BitVec.ofNat 1 a.powerBit)
    (BitVec.ofNat 2 a.modeCode) (BitVec.ofNat 4 a.checksum1) (BitVec.ofNat 2 a.checksum2)

/-- Decoding a frame by the pattern of R45. The checksums are not part of the pattern: they are WellFormed's
(R47; log entry 23). -/
def decodeFrame (s : Bits) : Except DecodeError Instr :=
  if s.length ≠ Config.frameBits then .error .frameLength
  else if s.take Config.headerBits ≠ Config.vendorHeader then .error .vendorHeader
  else if framePadding s ≠ zeroBits 14 then .error .padding
  else if (parseFrame s).powerBitRepeat ≠ (parseFrame s).powerBit then .error .powerBitRepeat
  else .ok (frame72OfFields (parseFrame s))

/-- The element a symbol selects (spec/30_encoding.md R54). -/
def decodeSymbol : Symbol → Except DecodeError Instr
  | .zero => .ok .bit0
  | .one => .ok .bit1
  | .other _ => .error .otherSymbol

/-- The element a phase selects by itself (spec/30_encoding.md R54). -/
def decodePhase : Phase → Except DecodeError Instr
  | .sendingHeader => .ok .hdr
  | .sendingEnd => .ok .endMarker
  | .idle => .error .noElement
  | .sendingBits _ => .error .noElement
  | .done => .error .noElement
  | .aborted => .error .noElement

/-- The decoder, total on every encoded object. -/
def decode : Code → Except DecodeError Instr
  | .request r => decodeRequest r
  | .frame bits => decodeFrame bits
  | .symbol y => decodeSymbol y
  | .implicit phase => decodePhase phase

/-! ### Encoding -/

/-- The encoder, from the same tables (spec/30_encoding.md R45, R50, R54). Ports an operation does not read hold 0 and the
empty frame. -/
def encode : Instr → Code
  | .encode mode temp fan => .request ⟨0#2, mode.code, temp, fan, []⟩
  | .transmit frame => .request ⟨1#2, 0, 0, 0, frame⟩
  | .send mode temp fan => .request ⟨2#2, mode.code, temp, fan, []⟩
  | .frame72 t f p m c k => .frame (frame72Bits t f p m c k)
  | .hdr => .implicit .sendingHeader
  | .bit0 => .symbol .zero
  | .bit1 => .symbol .one
  | .endMarker => .implicit .sendingEnd

/-! ### The opcode table's words -/

/-- The encoded object a word of spec/opcode_table.json stands for (log entry 26): 72 bits are a frame, bit 71 its position 0;
one bit is a symbol; no bits are the implicit element HDR; anything else is a request whose selector is bits 1..0 and whose
operands are all zero. -/
def tableCode (nbits w : Nat) : Code :=
  if nbits = 72 then .frame (be 72 w)
  else if nbits = 1 then .symbol (if w.testBit 0 then .one else .zero)
  else if nbits = 0 then .implicit .sendingHeader
  else .request ⟨BitVec.ofNat 2 w, 0, 0, 0, []⟩

/-- The instruction the decoder reads from a word of the opcode table. -/
def decodeTableWord (nbits w : Nat) : Option Instr :=
  match decode (tableCode nbits w) with
  | .ok i => some i
  | .error _ => none

end Sys2Proof
end

