-- ==== Sys2Proof/Machine/State.lean ====
section
/-! DEFINITION. The state of HPIR as plain data: the eight elements of spec/10_state.md R10, the observable of
spec/00_scope.md R9 (calls and replies), the inputs not yet taken, and the state after reset (R26). -/

namespace Sys2Proof.Machine

/-- The command snapshot `CMD.MODE`, `CMD.TEMP`, `CMD.FAN`: always written together (spec/10_state.md R14). -/
structure Command where
  mode : ModeArg
  temp : Int
  fan : Int
deriving DecidableEq, Repr

/-- `TX`, the transmitter's control state (spec/10_state.md R15). -/
inductive Tx where
  | idle
  /-- The next half-interval to emit is number `k` of the schedule. -/
  | run (k : Nat)
  | done
  | aborted
deriving DecidableEq, Repr

/-- The values of `RESULT` (spec/10_state.md R19). -/
inductive Result where
  | none | ok | invalidArgument | hardwareFailure
deriving DecidableEq, Repr

/-- The operations a host requests (spec/30_encoding.md R50). -/
inductive Op where
  | encode | transmit | send
deriving DecidableEq, Repr

/-- One entry of the primitive-call trace (spec/00_scope.md R9). -/
inductive Call where
  | setCarrier (level : Level) (answer : Answer)
  | delay (microseconds : Nat)
deriving DecidableEq, Repr

/-- What an ended operation returned to its requester: ENCODE's frame goes with `ok` (spec/40_encoder.md R65); the two
InvalidArguments are told apart by the operation (spec/60_exceptions.md R110). -/
structure Reply where
  op : Op
  result : Result
  frame : Option Bits
deriving DecidableEq, Repr

/-- What the host or the platform presents at one step (log entry 9). -/
inductive Input where
  /-- Nothing: the sequencer moves if it runs. -/
  | nothing
  /-- An operation request (spec/30_encoding.md R50). -/
  | request (r : Request)
  /-- A frame handed to the transmitter as bits, of any length and content (spec/20_memory.md R44, spec/30_encoding.md R58;
  log entry 2). -/
  | frame (bits : Bits)
  /-- The platform resets the block (spec/70_reset_and_hazards.md R135, R136; log entry 11). -/
  | reset
deriving DecidableEq, Repr

/-- The machine's state. -/
structure State where
  /-- `CMD.MODE`, `CMD.TEMP`, `CMD.FAN`; `none` when they hold no value (spec/10_state.md R26). -/
  cmd : Option Command
  /-- `FRAMEBUF`; `none` when it holds no value: after reset, after Done and after a HardwareFailure (spec/10_state.md R18, R26,
  spec/93_implementation_defined.md U10; log entry 16). `LEN` is its length. -/
  framebuf : Option (List Symbol)
  /-- `TX` (R15). -/
  tx : Tx
  /-- `RESULT`: the outcome of the operation that finished last (R19). -/
  result : Result
  /-- `CARRIER`: the level of the line as the platform holds it (R21). -/
  carrier : Level
  /-- Whose requester is blocked on the transmission in progress (spec/41_transmitter.md R81). -/
  requester : Option Op
  /-- The primitive calls of the transmission in progress or last ended, oldest first. -/
  trace : List Call
  /-- The primitive calls of the transmissions before that one, oldest first. -/
  history : List Call
  /-- The replies given, oldest first. -/
  replies : List Reply
  /-- The mark that the host presented a transmitter request while one ran (spec/70_reset_and_hazards.md R142). -/
  overlap : Bool
  /-- What is presented at the coming steps; after the end, nothing. -/
  inbox : List Input
  /-- The platform's answers to the coming `set_carrier` calls; after the end, free values (log entry 4). -/
  answers : List Answer
  /-- How many `set_carrier` calls were made: the index of the free values. -/
  draws : Nat
  /-- `MAX_FRAME_LEN`, the OPEN parameter of spec/00_scope.md R5: an argument of the model, `none` for no bound. No step writes it
  (log entry 12). -/
  maxFrameLen : Option Nat
deriving DecidableEq, Repr

/-- Why the machine stops with a fault. -/
inductive Fault where
  /-- Raised by `step` when TX is Run(K) and K is past the schedule, FRAMEBUF holds no value, or the position read is outside
  it: reads the spec says are never generated and gives no behaviour (spec/20_memory.md R31). Safe: no reachable state. -/
  | frameReadOutOfRange
  /-- Raised by `step` when TX is Run(K) and the symbol read is OTHER: the spec has no pulse element for it and says that such a
  frame never reaches Run(0) (spec/30_encoding.md R54). Safe: no reachable state. -/
  | noPulseElement
deriving DecidableEq, Repr

/-- Why an instruction has no step. -/
inductive Refusal where
  /-- Raised by an arm of `exec` for an instruction with no meaning yet. Safe. -/
  | notModelled (mnemonic : String)
  /-- Raised by `step` for a request whose selector is 3, and for nothing else: "the model refuses it: it has no step and no
  result" (spec/30_encoding.md R56, spec/93_implementation_defined.md U9). Safe. -/
  | notAnInstruction (reason : DecodeError)
  /-- Raised by a pulse element's meaning when the sequencer does not select that element (spec/30_encoding.md R54, "selected
  when"). Safe: `step` runs only the selected element. -/
  | elementNotSelected (e : Element)
  /-- Raised by TRANSMIT, FRAME72 and SEND for a frame longer than MAX_FRAME_LEN: "a model with a bound must `refuse` longer frames"
  (spec/93_implementation_defined.md U15). Safe, and never with the default, which is no bound. -/
  | frameTooLong
deriving DecidableEq, Repr

/-- The state after reset (spec/10_state.md R26, spec/70_reset_and_hazards.md R135): nothing presented, nothing observed. -/
def State.reset : State where
  cmd := none
  framebuf := none
  tx := .idle
  result := .none
  carrier := .off
  requester := none
  trace := []
  history := []
  replies := []
  overlap := false
  inbox := []
  answers := []
  draws := 0
  maxFrameLen := Config.defaultMaxFrameLen

end Sys2Proof.Machine
end

