-- ==== Sys2Proof/Machine/Operands.lean ====
section
/-! DEFINITION. The operand forms of HPIR's operations: the command and its validation (spec/40_encoder.md R66), the codes
derived from it (R67 to R69), and the conversions between bits, characters and symbols (spec/30_encoding.md R53,
spec/20_memory.md R44). -/

namespace Sys2Proof.Machine

/-- The mode a mode operand gives, if any (spec/40_encoder.md R66: numeric form 0 <= mode <= 3). -/
def modeOf : ModeArg → Option Mode
  | .named m => some m
  | .other code =>
    match ModeArg.ofCode code with
    | .named m => some m
    | .other _ => none

/-- `TEMP_MIN <= t <= TEMP_MAX` (R66). -/
def tempInRange (t : Int) : Bool := decide (Config.tempMin ≤ t) && decide (t ≤ Config.tempMax)

/-- `FAN_MIN <= f <= FAN_MAX` (R66). -/
def fanInRange (f : Int) : Bool := decide (Config.fanMin ≤ f) && decide (f ≤ Config.fanMax)

/-- The mode of a valid command; `none` when `valid(CMD)` is false (R66). -/
def validMode (c : Command) : Option Mode :=
  if tempInRange c.temp && fanInRange c.fan then modeOf c.mode else none

/-- `temperature_code` (R67). -/
def temperatureCode (t : Int) : Nat := (t - Config.tempMin).toNat

/-- `fan_code` (R68). -/
def fanCode (f : Int) : Nat := if 0 < f then (f.toNat / Config.fanStep) * 2 + 2 else 0

/-- `mode_code` (R69): OFF has HEAT's code. -/
def modeCode : Mode → Nat
  | .auto => 0
  | .cool => 1
  | .heat => 3
  | .off => 3

/-- A bit as a symbol (spec/30_encoding.md R53). -/
def symbolOfBit (b : Bit) : Symbol := if b then .one else .zero

/-- A frame of bits as symbols (R53). -/
def symbolsOfBits (s : Bits) : List Symbol := s.map symbolOfBit

/-- A character of the diagnostic string as a symbol (R53). -/
def symbolOfChar (c : Char) : Symbol :=
  if c = '0' then .zero else if c = '1' then .one else .other c.toNat

/-- A string of characters as a frame (R53, R57). -/
def symbolsOfString (s : String) : List Symbol := s.toList.map symbolOfChar

/-- The diagnostic string of a frame: one character a bit (spec/20_memory.md R44, spec/60_exceptions.md R126). -/
def diagnosticString (s : Bits) : String := String.ofList (s.map fun b => if b then '1' else '0')

/-- Whether a symbol is neither ZERO nor ONE (spec/41_transmitter.md R82). -/
def isOther : Symbol → Bool
  | .zero => false
  | .one => false
  | .other _ => true

/-- Whether validation rejects a frame: some position holds OTHER (R82). -/
def hasOther (f : List Symbol) : Bool := f.any isOther

end Sys2Proof.Machine
end

