-- ==== Sys2Proof/Machine/Flags.lean ====
section
/-! DEFINITION. HPIR has no flags (spec/10_state.md R20). What its operations compute beside their codes are the check fields of
the frame: the power bit and the two checksums (spec/40_encoder.md R70 to R72), and the frame they go into (R65). -/

namespace Sys2Proof.Machine

/-- `power_bit` (R70): 1 for OFF, else 0. -/
def powerBit : Mode → Nat
  | .auto => 0
  | .cool => 0
  | .heat => 0
  | .off => 1

/-- `checksum1` (R71): a sum, not an exclusive or. -/
def checksum1 (temperatureCode fanCode : Nat) : Nat := (temperatureCode + fanCode) % 16

/-- `checksum2` (R72). -/
def checksum2 (modeCode : Nat) : Nat := modeCode ^^^ 1

/-- The frame of a mode, a temperature and a fan speed in range (R65, spec/30_encoding.md R46). -/
def encodedFrame (m : Mode) (t f : Int) : Bits :=
  assembleFrame (temperatureCode t) (fanCode f) (powerBit m) (modeCode m)
    (checksum1 (temperatureCode t) (fanCode f)) (checksum2 (modeCode m))

/-- The encoder as the pure function it is (R65, R75): the frame of a valid command, nothing for an invalid one. -/
def encodeCommand (c : Command) : Option Bits :=
  match validMode c with
  | some m => some (encodedFrame m c.temp c.fan)
  | none => none

end Sys2Proof.Machine
end

