-- ==== Sys2Proof/Machine/Sequencer.lean ====
section
/-! DEFINITION. The transmitter's schedule, twice: position by position (spec/10_state.md R16: phase, element, half) and as the
list of the pulse train sent twice (spec/41_transmitter.md R83, R84). The machine runs the first. -/

namespace Sys2Proof.Machine

/-- A half-interval: the level asked for and the duration in microseconds (spec/41_transmitter.md R84). -/
structure Half where
  level : Level
  microseconds : Nat
deriving DecidableEq, Repr

/-- The mark of a pulse element (spec/30_encoding.md R54). -/
def markOf : Element → Nat
  | .hdr => Config.hdrMark
  | .bit0 => Config.bitMark
  | .bit1 => Config.bitMark
  | .endMarker => Config.endMark

/-- The space of a pulse element (R54). -/
def spaceOf : Element → Nat
  | .hdr => Config.hdrSpace
  | .bit0 => Config.zeroSpace
  | .bit1 => Config.oneSpace
  | .endMarker => Config.endSpace

/-- One half of a pulse element: carrier on for the mark, off for the space (R54). -/
def halfOfElement (e : Element) : HalfName → Half
  | .mark => ⟨.on, markOf e⟩
  | .space => ⟨.off, spaceOf e⟩

/-- `PER`: half-intervals per frame (spec/10_state.md R16). -/
def perFrame (len : Nat) : Nat := 2 * len + 4

/-- `N`: half-intervals per request (spec/10_state.md R15). -/
def perRequest (len : Nat) : Nat := Config.frameRepeats * perFrame len

/-- `REP` (R16). -/
def repAt (len k : Nat) : Nat := k / perFrame len

/-- `PHASE` of `Run(k)` (R16's table, by `J = k mod PER`). -/
def phaseAt (len k : Nat) : Phase :=
  let j := k % perFrame len
  if j < 2 then .sendingHeader
  else if j < 2 * len + 2 then .sendingBits ((j - 2) / 2)
  else .sendingEnd

/-- `HALF` of `Run(k)`: Mark exactly when `k` is even (R16). -/
def halfAt (k : Nat) : HalfName := if k % 2 = 0 then .mark else .space

/-- The element a symbol selects, if any (spec/30_encoding.md R54). -/
def elementOfSymbol : Symbol → Option Element
  | .zero => some .bit0
  | .one => some .bit1
  | .other _ => none

/-- The pulse element of half-interval `k` of frame `f` (R16, R54); none where there is no half-interval `k`. -/
def elementAt (f : List Symbol) (k : Nat) : Option Element :=
  if k < perRequest f.length then
    match phaseAt f.length k with
    | .sendingHeader => some .hdr
    | .sendingBits i => f[i]? >>= elementOfSymbol
    | .sendingEnd => some .endMarker
    | _ => none
  else none

/-- `half(k)` (R16). -/
def scheduleAt (f : List Symbol) (k : Nat) : Option Half :=
  (elementAt f k).map fun e => halfOfElement e (halfAt k)

/-- The (mark, space) pair of a pulse element. -/
def pairOf (e : Element) : Nat × Nat := (markOf e, spaceOf e)

/-- The bit element of a symbol of a validated frame (spec/41_transmitter.md R83: ZERO, else ONE). -/
def bitElement (y : Symbol) : Element := if y = .zero then .bit0 else .bit1

/-- `train(F)`: the pulse train of one frame (spec/41_transmitter.md R83). -/
def pulseTrain (f : List Symbol) : List (Nat × Nat) :=
  [pairOf .hdr] ++ f.map (fun y => pairOf (bitElement y)) ++ [pairOf .endMarker]

/-- The two half-intervals of a (mark, space) pair (R84). -/
def halvesOfPair (p : Nat × Nat) : List Half := [⟨.on, p.1⟩, ⟨.off, p.2⟩]

/-- `halves(F)` (R84). -/
def frameHalves (f : List Symbol) : List Half := (pulseTrain f).flatMap halvesOfPair

/-- `schedule(F)`: the frame's half-intervals, FRAME_REPEATS times (R84). -/
def schedule (f : List Symbol) : List Half := (List.replicate Config.frameRepeats (frameHalves f)).flatten

/-- The calls of a half-interval that was emitted whole (R85). -/
def emittedCalls (h : Half) : List Call := [.setCarrier h.level .ok, .delay h.microseconds]

/-- The trace of the first `k` half-intervals of a request, all answered ok (R85). -/
def emittedTrace (f : List Symbol) (k : Nat) : List Call := ((schedule f).take k).flatMap emittedCalls

/-- The sum of the durations of a list of half-intervals (R94). -/
def totalMicroseconds (hs : List Half) : Nat := (hs.map Half.microseconds).sum

/-- `ones(F)`: how many symbols are ONE (R94). -/
def onesOf (f : List Symbol) : Nat := f.count .one

/-- Reading the symbol of a (mark, space) pair back (R96). -/
def symbolOfPair (p : Nat × Nat) : Option Symbol :=
  if p = pairOf .bit0 then some .zero else if p = pairOf .bit1 then some .one else none

/-- Reading a frame back from its pulse train: drop the header pair and the end pair (R96). -/
def readTrain (ps : List (Nat × Nat)) : List (Option Symbol) := (ps.drop 1).dropLast.map symbolOfPair

end Sys2Proof.Machine
end

