-- ==== Sys2Proof/Machine/Ops.lean ====
section
/-! DEFINITION. The shared operations of the machine: what is read of the state (readiness, PHASE, LEN, FRAMEBUF, the result code), the
two platform primitives (spec/60_exceptions.md R123, R124), ending an operation, raising a failure (R116 to R118), accepting a transmission
(spec/41_transmitter.md R81, R82) and the half-interval step (R85, R86, R91). -/

namespace Sys2Proof.Machine

/-! ### Reading the state -/

/-- Busy: TX is Run(K) (spec/10_state.md R17). -/
def State.busy (s : State) : Bool :=
  match s.tx with
  | .run _ => true
  | .idle => false
  | .done => false
  | .aborted => false

/-- `LEN`: the length of FRAMEBUF, no value when FRAMEBUF holds none (spec/10_state.md R10). -/
def State.len (s : State) : Option Nat := s.framebuf.map List.length

/-- `MemRead(i, 1)` (spec/20_memory.md R31). Outside a running request FRAMEBUF is unreadable (spec/10_state.md R18). -/
def State.memRead (s : State) (i : Nat) : Option Symbol :=
  match s.tx, s.framebuf with
  | .run _, some f => f[i]?
  | _, _ => none

/-- `PHASE`, as the host reads it (spec/10_state.md R16, R20). -/
def State.phase (s : State) : Option Phase :=
  match s.tx with
  | .idle => some .idle
  | .done => some .done
  | .aborted => some .aborted
  | .run k => s.len.map fun n => phaseAt n k

/-- `REP`: only while TX is Run(K) (R16). -/
def State.rep (s : State) : Option Nat :=
  match s.tx with
  | .run k => s.len.map fun n => repAt n k
  | _ => none

/-- `HALF`: only while TX is Run(K) (R16). -/
def State.half (s : State) : Option HalfName :=
  match s.tx with
  | .run k => some (halfAt k)
  | _ => none

/-- `I`: only while PHASE is SendingBits(I) (R16). -/
def State.bitIndex (s : State) : Option Nat :=
  match s.phase with
  | some (.sendingBits i) => some i
  | _ => none

/-- What the sequencer fetches in Run(K): the symbol at position I while sending bits, else the phase itself
(spec/00_scope.md R8, spec/30_encoding.md R54). None where the spec generates no read (spec/20_memory.md R31). -/
def State.fetch (s : State) : Option Code :=
  match s.tx, s.len with
  | .run k, some n =>
    if k < perRequest n then
      match phaseAt n k with
      | .sendingBits i => (s.memRead i).map Code.symbol
      | ph => some (.implicit ph)
    else none
  | _, _ => none

/-- What the sequencer decodes from what it fetches (spec/30_encoding.md R54). The two stops are in no reachable state: no read
(spec/20_memory.md R31) and no element for the symbol read (R54; log entry 24). -/
def State.fetchInstr (s : State) : Except Fault Instr :=
  match s.fetch with
  | none => .error .frameReadOutOfRange
  | some c =>
    match decode c with
    | .ok i => .ok i
    | .error _ => .error .noPulseElement

/-- The element the sequencer selects, with its K (spec/30_encoding.md R54). -/
def State.selected (s : State) : Option (Element × Nat) :=
  match s.tx, s.framebuf with
  | .run k, some f => (elementAt f k).map fun e => (e, k)
  | _, _ => none

/-- The number a host reads for a result: None has no code (spec/10_state.md R19, spec/60_exceptions.md R110,
spec/92_eei_decisions.md D6). -/
def Result.code : Result → Option Nat
  | .none => Option.none
  | .ok => some 0
  | .invalidArgument => some 1
  | .hardwareFailure => some 2

/-- `RESULT` as the number a host reads (R19). -/
def State.resultCode (s : State) : Option Nat := s.result.code

/-! ### The platform primitives -/

/-- What the platform answers to the next `set_carrier` call (spec/60_exceptions.md R124; log entry 4). -/
def State.answer (s : State) : Answer :=
  match s.answers with
  | a :: _ => a
  | [] => Config.freeAnswer s.draws

/-- `set_carrier(level)`: on ok the line takes the level; on fail it is a draw (spec/10_state.md R21; log entry 5). -/
def State.setCarrier (level : Level) (s : State) : State :=
  { s with
    carrier := if s.answer = .ok then level else Config.freeLevel s.draws
    trace := s.trace ++ [.setCarrier level s.answer]
    answers := s.answers.tail
    draws := s.draws + 1 }

/-- `delay(n)`: recorded; it cannot fail and it returns (spec/60_exceptions.md R123; log entry 15). -/
def State.delay (microseconds : Nat) (s : State) : State :=
  { s with trace := s.trace ++ [.delay microseconds] }

/-! ### Ending an operation -/

/-- RESULT is written and the requester, if there is one, gets its reply (spec/10_state.md R19, spec/40_encoder.md R65). -/
def State.reply (op : Option Op) (r : Result) (frame : Option Bits) (s : State) : State :=
  { s with
    result := r
    replies := s.replies ++ (op.map fun o => ⟨o, r, frame⟩).toList }

/-- The failures (spec/60_exceptions.md R110). -/
inductive Failure where
  | encoderInvalidArgument
  | transmitterInvalidArgument
  | hardwareFailure
deriving DecidableEq, Repr

/-- The result a failure reports (R110): the two InvalidArguments share a name. -/
def Failure.result : Failure → Result
  | .encoderInvalidArgument => .invalidArgument
  | .transmitterInvalidArgument => .invalidArgument
  | .hardwareFailure => .hardwareFailure

/-- `FRAMEBUF` after its request ended: the frame is discarded and the buffer holds no value (spec/10_state.md R18,
spec/42_pipeline.md R109, spec/93_implementation_defined.md U10; log entry 16). -/
def State.discardFrame (s : State) : State := { s with framebuf := none }

/-- The transmitter's request is over: TX takes a terminal state and the requester is released (spec/41_transmitter.md R81). -/
def State.finish (tx : Tx) (s : State) : State := { s with tx := tx, requester := none }

/-- Taking a failure (R116 to R118): RESULT and the reply; the transmitter's failures also set TX to Aborted and release the
requester; a HardwareFailure discards the frame, while a rejected frame stays in FRAMEBUF, unreadable (R117). Nothing else
changes and no primitive call is made. There is no return from a failure beside it: the block is ready again, and the next
request is accepted as from Idle (R121). -/
def State.raise (f : Failure) (op : Option Op) (s : State) : State :=
  match f with
  | .encoderInvalidArgument => s.reply op f.result none
  | .transmitterInvalidArgument => (s.reply op f.result none).finish .aborted
  | .hardwareFailure => ((s.reply op f.result none).finish .aborted).discardFrame

/-- Completion (spec/41_transmitter.md R91): TX Done, RESULT OK, the requester released, the frame discarded. -/
def State.complete (s : State) : State := ((s.reply s.requester .ok none).finish .done).discardFrame

/-! ### Requests -/

/-- The command snapshot, taken whole (spec/10_state.md R14). -/
def State.snapshot (c : Command) (s : State) : State := { s with cmd := some c }

/-- The frame latch (spec/20_memory.md R32); the new request's trace starts empty. -/
def State.latch (f : List Symbol) (s : State) : State :=
  { s with framebuf := some f, history := s.history ++ s.trace, trace := [] }

/-- Entering the first half-interval with the requester blocked (spec/41_transmitter.md R81, R82). -/
def State.start (op : Op) (s : State) : State := { s with tx := .run 0, requester := some op }

/-- An accepted transmission: latch, validate the whole frame, and enter Run(0) or fail, in one step
(spec/41_transmitter.md R81, R82). -/
def State.accept (op : Op) (f : List Symbol) (s : State) : State :=
  if hasOther f then (s.latch f).raise .transmitterInvalidArgument (some op) else (s.latch f).start op

/-- A transmitter request in the busy state (spec/70_reset_and_hazards.md R142): not accepted, not queued, not answered, the
running transmission undisturbed; the run keeps a mark (log entry 3). -/
def State.refuseOverlap (s : State) : State := { s with overlap := true }

/-- Whether a frame is within MAX_FRAME_LEN (spec/00_scope.md R5, 93 U15; log entry 12). -/
def State.frameFits (s : State) (f : List Symbol) : Bool :=
  match s.maxFrameLen with
  | none => true
  | some n => decide (f.length ≤ n)

/-- Presenting a frame to the transmitter on behalf of an operation (spec/41_transmitter.md R80, R81). -/
def State.requestTransmit (op : Op) (f : List Symbol) (s : State) : Host.Outcome State Fault Refusal :=
  if s.busy then .next s.refuseOverlap
  else if s.frameFits f then .next (s.accept op f)
  else .refused .frameTooLong

/-! ### The sequencer's step -/

/-- After `delay` returned for half-interval `k` (spec/41_transmitter.md R85, R91). -/
def State.advance (k : Nat) (s : State) : State :=
  if s.len.map perRequest = some (k + 1) then s.complete else { s with tx := .run (k + 1) }

/-- One half-interval (R85, R86): `set_carrier`, then on ok `delay` and the advance, on fail the failure. -/
def State.emitHalf (h : Half) (k : Nat) (s : State) : State :=
  match s.answer with
  | .ok => ((s.setCarrier h.level).delay h.microseconds).advance k
  | .fail => (s.setCarrier h.level).raise .hardwareFailure s.requester

/-- Executing a pulse element: the half-interval HALF names, when the sequencer selects that element
(spec/41_transmitter.md R87 to R90; log entries 13, 14). -/
def State.runElement (e : Element) (s : State) : Host.Outcome State Fault Refusal :=
  match s.selected with
  | some (e', k) =>
    if e' = e then .next (s.emitHalf (halfOfElement e (halfAt k)) k) else .refused (.elementNotSelected e)
  | none => .refused (.elementNotSelected e)

/-! ### The platform's reset -/

/-- Reset as an event (spec/70_reset_and_hazards.md R135, R136): every element takes its reset value, a request in progress is
lost with no reply and makes no further call. What was observed, the mark, the inputs not yet taken and MAX_FRAME_LEN stay
(log entry 11). -/
def State.platformReset (s : State) : State :=
  { s with
    cmd := State.reset.cmd
    framebuf := State.reset.framebuf
    tx := State.reset.tx
    result := State.reset.result
    carrier := State.reset.carrier
    requester := State.reset.requester
    history := s.history ++ s.trace
    trace := State.reset.trace }

/-! ### Inputs -/

/-- The first of the inputs is taken. -/
def State.popInput (s : State) : State := { s with inbox := s.inbox.tail }

/-- The state with an encoded object placed where the next step fetches it (log entry 18): a request or a frame first in the
inbox; a symbol as the frame at whose position 0 the sequencer stands; HDR and END as the header and end of the empty frame. -/
def State.place (c : Code) (s : State) : State :=
  match c with
  | .request r => { s with inbox := .request r :: s.inbox }
  | .frame bits => { s with inbox := .frame bits :: s.inbox }
  | .symbol y => { s with framebuf := some [y], tx := .run 2, inbox := .nothing :: s.inbox }
  | .implicit .sendingHeader => { s with framebuf := some [], tx := .run 0, inbox := .nothing :: s.inbox }
  | .implicit .sendingEnd => { s with framebuf := some [], tx := .run 2, inbox := .nothing :: s.inbox }
  | .implicit _ => s

end Sys2Proof.Machine
end

