-- ==== Sys2Proof/Machine/Encoder.lean ====
section
/-! DEFINITION. The StateEncoder's operation, ENCODE (spec/40_encoder.md R65). -/

namespace Sys2Proof.Machine

/-- ENCODE (R65): one atomic step in any TX; the transmitter, the line and the trace are not touched. -/
def execEncode (mode : ModeArg) (temp fan : Int) (s : State) : Host.Outcome State Fault Refusal :=
  match encodeCommand ⟨mode, temp, fan⟩ with
  | some frame => .next ((s.snapshot ⟨mode, temp, fan⟩).reply (some .encode) .ok (some frame))
  | none => .next ((s.snapshot ⟨mode, temp, fan⟩).raise .encoderInvalidArgument (some .encode))

end Sys2Proof.Machine
end

