-- ==== Sys2Proof/Machine/Pipeline.lean ====
section
/-! DEFINITION. The composite operation SEND (spec/42_pipeline.md R105). -/

namespace Sys2Proof.Machine

/-- SEND (R105): the readiness test comes first (R107); an encoder failure leaves the transmitter as it was; otherwise one
TRANSMIT of the encoder's frame, whose result is SEND's. -/
def execSend (mode : ModeArg) (temp fan : Int) (s : State) : Host.Outcome State Fault Refusal :=
  if s.busy then .next s.refuseOverlap
  else
    match encodeCommand ⟨mode, temp, fan⟩ with
    | some frame => (s.snapshot ⟨mode, temp, fan⟩).requestTransmit .send (symbolsOfBits frame)
    | none => .next ((s.snapshot ⟨mode, temp, fan⟩).raise .encoderInvalidArgument (some .send))

end Sys2Proof.Machine
end

