-- ==== Sys2Proof/Machine/PulseElements.lean ====
section
/-! DEFINITION. The pulse elements HDR, BIT0, BIT1, END (spec/41_transmitter.md R87 to R90): each execution emits the half of the
element that HALF names (R85, R86, R91). -/

namespace Sys2Proof.Machine

/-- HDR (R87): 4400 on, 4350 off. -/
def execHdr (s : State) : Host.Outcome State Fault Refusal := s.runElement .hdr

/-- BIT0 (R88): 560 on, 520 off. -/
def execBit0 (s : State) : Host.Outcome State Fault Refusal := s.runElement .bit0

/-- BIT1 (R89): 560 on, 1600 off. -/
def execBit1 (s : State) : Host.Outcome State Fault Refusal := s.runElement .bit1

/-- END (R90): 560 on, 7450 off. -/
def execEnd (s : State) : Host.Outcome State Fault Refusal := s.runElement .endMarker

end Sys2Proof.Machine
end

