-- ==== Sys2Proof/Machine/Transmitter.lean ====
section
/-! DEFINITION. The PulseProtocolTransmitter's operation, TRANSMIT (spec/41_transmitter.md R80), and the hand-over of a FRAME72
to it (spec/20_memory.md R44). -/

namespace Sys2Proof.Machine

/-- TRANSMIT (R80 to R82). It does not touch CMD and looks at no field of the frame (spec/30_encoding.md R58). -/
def execTransmit (frame : List Symbol) (s : State) : Host.Outcome State Fault Refusal :=
  s.requestTransmit .transmit frame

/-- FRAME72: the frame is handed to the transmitter by value and whole, each bit a symbol, and no field of it is looked at
(spec/20_memory.md R44, spec/30_encoding.md R45, R53, R58; log entry 2). -/
def execFrame72 (t f : BitVec 4) (p : BitVec 1) (m : BitVec 2) (c : BitVec 4) (k : BitVec 2) (s : State) :
    Host.Outcome State Fault Refusal :=
  s.requestTransmit .transmit (symbolsOfBits (frame72Bits t f p m c k))

end Sys2Proof.Machine
end

