-- ==== Sys2Proof/Machine/Dispatch.lean ====
section
/-! DEFINITION. The dispatch: one arm per instruction. -/

namespace Sys2Proof.Machine

def exec (i : Instr) (s : State) : Host.Outcome State Fault Refusal :=
  match i with
  | .encode mode temp fan => Sys2Proof.Machine.execEncode mode temp fan s
  | .transmit frame => Sys2Proof.Machine.execTransmit frame s
  | .send mode temp fan => Sys2Proof.Machine.execSend mode temp fan s
  | .frame72 t f p m c k => Sys2Proof.Machine.execFrame72 t f p m c k s
  | .hdr => Sys2Proof.Machine.execHdr s
  | .bit0 => Sys2Proof.Machine.execBit0 s
  | .bit1 => Sys2Proof.Machine.execBit1 s
  | .endMarker => Sys2Proof.Machine.execEnd s

end Sys2Proof.Machine
end

