-- ==== Sys2Proof/Machine/Step.lean ====
section
/-! DEFINITION. One step of the machine: what is presented is taken; if it is nothing, the sequencer executes the element it
selects, and a ready block waits (spec/00_scope.md R9, spec/60_exceptions.md R127; log entry 9). -/

namespace Sys2Proof.Machine

/-- A presented request is decoded and executed; selector 3 is refused by name (spec/30_encoding.md R50, R56). -/
def State.runRequest (r : Request) (s : State) : Host.Outcome State Fault Refusal :=
  match decode (.request r) with
  | .ok i => exec i s
  | .error e => .refused (.notAnInstruction e)

/-- A presented frame of bits is handed to TRANSMIT with each bit as a symbol, whatever its length, header, padding or checksums
(spec/20_memory.md R44, spec/30_encoding.md R58). It is not parsed: the parse of R47 is for laws and tests only. For the bits of a
FRAME72 this is what executing FRAME72 does (log entry 2). -/
def State.runFrame (bits : Bits) (s : State) : Host.Outcome State Fault Refusal := exec (.transmit (symbolsOfBits bits)) s

/-- The block's own move: in Run(K) the selected pulse element (spec/41_transmitter.md R85), else waiting. -/
def State.sequence (s : State) : Host.Outcome State Fault Refusal :=
  if s.busy then
    match s.fetchInstr with
    | .ok i => exec i s
    | .error r => .fault r
  else .next s

/-- One step. -/
def step (s : State) : Host.Outcome State Fault Refusal :=
  match s.inbox with
  | .request r :: _ => s.popInput.runRequest r
  | .frame bits :: _ => s.popInput.runFrame bits
  | .reset :: _ => .next s.popInput.platformReset
  | .nothing :: _ => s.popInput.sequence
  | [] => s.sequence

/-- The state whose next step runs the instruction of an opcode-table word (log entries 18, 26). -/
def State.withFetchWord (s : State) (nbits w : Nat) : State := s.place (tableCode nbits w)

end Sys2Proof.Machine
end

