-- ==== Sys2Proof/Safety.lean ====
section
/-! DEFINITION. What counts as a good state and a safe outcome, in the terms the claims use: the invariants of spec/10_state.md
R21 and R24, the shape of the trace (spec/41_transmitter.md R85, R86, R91), and the premises on the host
(spec/70_reset_and_hazards.md R141). -/

namespace Sys2Proof.Safety

open Sys2Proof.Machine

/-- The instruction that is a pulse element. -/
def instrOf : Element → Instr
  | .hdr => .hdr
  | .bit0 => .bit0
  | .bit1 => .bit1
  | .endMarker => .endMarker

/-- A frame of this length is within MAX_FRAME_LEN (spec/00_scope.md R5, spec/93_implementation_defined.md U15). -/
def withinBound (s : State) (len : Nat) : Prop := ∀ n, s.maxFrameLen = some n → len ≤ n

/-- Nothing is presented at the next step: the block moves by itself. -/
def quiet (s : State) : Prop := s.inbox = [] ∨ ∃ rest, s.inbox = .nothing :: rest

/-- The command's fields are in range and its mode is `m` (spec/40_encoder.md R66). -/
def validCommand (mode : ModeArg) (m : Mode) (temp fan : Int) : Prop :=
  (mode = .named m ∨ ∃ n, mode = .other n ∧ ModeArg.ofCode n = .named m) ∧ 17 ≤ temp ∧ temp ≤ 30 ∧ 0 ≤ fan ∧ fan ≤ 100

/-- Some field of the command is out of range (R66): a mode operand that gives none of the four modes, a temperature outside
17..30, or a fan speed outside 0..100. -/
def invalidCommand (mode : ModeArg) (temp fan : Int) : Prop :=
  (∃ n, mode = .other n ∧ (n < 0 ∨ 3 < n)) ∨ temp < 17 ∨ 30 < temp ∨ fan < 0 ∨ 100 < fan

/-- ENCODE of these operands ends at once with this frame: CMD, RESULT and one reply are written, nothing else
(spec/40_encoder.md R65). -/
def encodeReplies (mode : ModeArg) (temp fan : Int) (s : State) (fr : Bits) : Prop :=
  exec (.encode mode temp fan) s =
    .next { s with
      cmd := some ⟨mode, temp, fan⟩
      result := .ok
      replies := s.replies ++ [⟨.encode, .ok, some fr⟩] }

/-- A well-formed FRAME72 (spec/30_encoding.md R47). -/
def wellFormedFrame72 (s : Bits) : Prop :=
  s.length = 72 ∧ s.take 40 = Config.vendorHeader ∧ framePadding s = zeroBits 14 ∧
    (parseFrame s).powerBitRepeat = (parseFrame s).powerBit ∧
    (parseFrame s).checksum1 = ((parseFrame s).temperatureCode + (parseFrame s).fanCode) % 16 ∧
    (parseFrame s).checksum2 = (parseFrame s).modeCode ^^^ 1

/-- R24 (a): in Run(K), K is inside the schedule of the latched frame and every symbol of it is ZERO or ONE. -/
def positionGood (s : State) : Prop :=
  ∀ k, s.tx = .run k → ∃ f, s.framebuf = some f ∧ k < 4 * f.length + 8 ∧ hasOther f = false

/-- A requester is blocked exactly while a transmission runs, and it requested TRANSMIT or SEND (spec/41_transmitter.md R81). -/
def requesterGood (s : State) : Prop :=
  if s.busy then s.requester = some .transmit ∨ s.requester = some .send else s.requester = none

/-- The trace is what the schedule says for the place reached: in Run(K) the first K half-intervals of the latched frame, in Done
all of some validated frame's, in Aborted nothing for the rejected frame, which FRAMEBUF keeps, and else K of some validated frame's
and one failed call (R85, R86, R91, R117). Where a frame was sent or none was presented, FRAMEBUF holds no value
(spec/10_state.md R18, R26, spec/93_implementation_defined.md U10). -/
def traceGood (s : State) : Prop :=
  match s.tx with
  | .idle => s.framebuf = none ∧ s.trace = []
  | .run k => ∃ f, s.framebuf = some f ∧ s.trace = emittedTrace f k
  | .done => s.framebuf = none ∧ ∃ f, hasOther f = false ∧ s.trace = emittedTrace f (4 * f.length + 8)
  | .aborted =>
      (∃ f, s.framebuf = some f ∧ hasOther f = true ∧ s.trace = []) ∨
      (s.framebuf = none ∧ ∃ f k h, hasOther f = false ∧ (schedule f)[k]? = some h ∧
        s.trace = emittedTrace f k ++ [.setCarrier h.level .fail])

/-- R21: the line is off in Done; in Run(K) past the first half-interval it has the level of half-interval K - 1. -/
def carrierGood (s : State) : Prop :=
  (s.tx = .done → s.carrier = .off) ∧
    ∀ k f h, s.tx = .run (k + 1) → s.framebuf = some f → (schedule f)[k]? = some h → s.carrier = h.level

/-- R24 (c) and spec/70_reset_and_hazards.md R150: RESULT is the outcome in the reply given last; while no transmission runs, OK after
a TRANSMIT or a SEND implies Done, HardwareFailure after either implies Aborted, and InvalidArgument after a TRANSMIT implies
Aborted (after a SEND, whose encoding failed, TX is as it was). -/
def resultGood (s : State) : Prop :=
  s.result ≠ .none → ∃ r, s.replies.getLast? = some r ∧ r.result = s.result ∧
    (s.busy = false →
      (r.op ≠ .encode → s.result = .ok → s.tx = .done) ∧
      (r.op ≠ .encode → s.result = .hardwareFailure → s.tx = .aborted) ∧
      (r.op = .transmit → s.result = .invalidArgument → s.tx = .aborted))

/-- The invariant of the machine. -/
def Good (s : State) : Prop :=
  positionGood s ∧ requesterGood s ∧ traceGood s ∧ carrierGood s ∧ resultGood s

/-- Neither a fault nor a refusal. -/
def goesOn (o : Host.Outcome State Fault Refusal) : Prop := ∃ t, o = .next t

end Sys2Proof.Safety
end

