-- ==== Sys2Proof/WellFormed.lean ====
section
/-! DEFINITION. Which instructions are well formed. Out-of-range temperatures and fan speeds, numeric modes outside 0..3 and
frames with OTHER symbols are NOT ill formed: they are operands the operations answer with InvalidArgument
(spec/30_encoding.md R56). -/

namespace Sys2Proof

/-- A numeric mode is kept as `other` only when it codes none of the four modes (spec/10_state.md R11). -/
def ModeArg.WellFormed : ModeArg → Bool
  | .named _ => true
  | .other code => decide (code < 0 ∨ 3 < code)

/-- The check fields of a well-formed FRAME72 agree with the fields they check (spec/30_encoding.md R47). -/
def frame72Checks (t f : BitVec 4) (m : BitVec 2) (c : BitVec 4) (k : BitVec 2) : Bool :=
  decide (c.toNat = (t.toNat + f.toNat) % 16) && decide (k = m ^^^ 1#2)

/-- Well-formedness of an instruction, constructor by constructor. -/
def Instr.WellFormed : Instr → Bool
  | .encode mode _ _ => mode.WellFormed
  | .transmit _ => true
  | .send mode _ _ => mode.WellFormed
  | .frame72 t f _ m c k => frame72Checks t f m c k
  | .hdr => true
  | .bit0 => true
  | .bit1 => true
  | .endMarker => true

end Sys2Proof
end

