-- ==== Sys2Proof/Certificates/Slice0/Obligations.lean ====
section
/-! DEFINITION. The statements for the provers. Record updates name exactly what an instruction writes: everything not named is
unchanged, which is the instruction's frame. -/

open Sys2Proof Sys2Proof.Machine Sys2Proof.Safety

/-! ### Encoding -/

/-- Every well-formed instruction is read back from its encoded object (spec/30_encoding.md R45, R50, R54; the operand ports
and the frame and phase objects are the model's, log entries 1, 2, 23). -/
def Obligations.DecodeOfEncode : Prop :=
  ∀ i : Instr, i.WellFormed = true → decode (encode i) = .ok i

/-- A frame object decodes only to the FRAME72 whose bits it is: no bit of it is dropped (spec/30_encoding.md R45, R47). -/
def Obligations.FrameDecodesOnlyToItself : Prop :=
  ∀ (bits : Bits) (i : Instr), decode (.frame bits) = .ok i →
    ∃ t f p m c k, i = .frame72 t f p m c k ∧ frame72Bits t f p m c k = bits

/-- Words written out from the spec's encodings decode to what they stand for: the three selectors (R50), the first vector's frame
F2 0D 03 FC 01 70 81 00 F0 (95 V1), the two symbols and the two implicit elements (R54). -/
def Obligations.SpecWordsDecode : Prop :=
  decode (.request ⟨0#2, 1, 24, 60, []⟩) = .ok (.encode (.named .cool) 24 60) ∧
  decode (.request ⟨1#2, 0, 0, 0, [.one, .zero]⟩) = .ok (.transmit [.one, .zero]) ∧
  decode (.request ⟨2#2, 3, 20, 0, []⟩) = .ok (.send (.named .off) 20 0) ∧
  decode (.frame (be 72 0xF20D03FC01708100F0)) = .ok (.frame72 7#4 8#4 0#1 1#2 15#4 0#2) ∧
  decode (.symbol .zero) = .ok .bit0 ∧
  decode (.symbol .one) = .ok .bit1 ∧
  decode (.implicit .sendingHeader) = .ok .hdr ∧
  decode (.implicit .sendingEnd) = .ok .endMarker

/-- Selector 3 is no operation: a step that meets it is refused, whatever the operands (spec/30_encoding.md R56). -/
def Obligations.SelectorThreeRefused : Prop :=
  ∀ (s : State) (mode temp fan : Int) (frame : List Sys2Proof.Symbol) (rest : List Input),
    s.inbox = .request ⟨3#2, mode, temp, fan, frame⟩ :: rest →
    step s = .refused (.notAnInstruction .notAnOperation)

/-! ### ENCODE -/

/-- A valid ENCODE completes in any state with the frame assembled from its operands, segment by segment
(spec/30_encoding.md R46, spec/40_encoder.md R65). -/
def Obligations.EncodeReturnsAssembledFrame : Prop :=
  ∀ (mode : ModeArg) (m : Mode) (temp fan : Int) (s : State), validCommand mode m temp fan →
    encodeReplies mode temp fan s
      ([true, true, true, true, false, false, true, false, false, false, false, false, true, true, false, true,
        false, false, false, false, false, false, true, true, true, true, true, true, true, true, false, false,
        false, false, false, false, false, false, false, true]
        ++ be 4 (temperatureCode temp) ++ [false, false, false, false]
        ++ be 4 (fanCode fan) ++ [false] ++ [decide (m = .off)] ++ be 2 (modeCode m)
        ++ [false, false, false, false, false, false, false, false]
        ++ be 4 ((temperatureCode temp + fanCode fan) % 16) ++ [false] ++ [decide (m = .off)]
        ++ be 2 (modeCode m ^^^ 1))

/-- An ENCODE with any field out of range writes CMD, RESULT and one InvalidArgument reply without a frame, and nothing else;
every command is either valid or out of range (spec/40_encoder.md R66, spec/60_exceptions.md R111, R116). -/
def Obligations.EncodeRejectsOutOfRange : Prop :=
  (∀ (mode : ModeArg) (temp fan : Int) (s : State), invalidCommand mode temp fan →
    exec (.encode mode temp fan) s =
      .next { s with
        cmd := some ⟨mode, temp, fan⟩
        result := .invalidArgument
        replies := s.replies ++ [⟨.encode, .invalidArgument, none⟩] }) ∧
  (∀ (mode : ModeArg) (temp fan : Int),
    (∃ m, validCommand mode m temp fan) ∨ invalidCommand mode temp fan) ∧
  (∀ (mode : ModeArg) (m : Mode) (temp fan : Int),
    validCommand mode m temp fan → ¬ invalidCommand mode temp fan)

/-- The frame's temperature code is the temperature less 17, at positions 40..43, in 0..13 (spec/40_encoder.md R67). -/
def Obligations.TemperatureCodeField : Prop :=
  ∀ (mode : ModeArg) (m : Mode) (temp fan : Int) (s : State), validCommand mode m temp fan →
    ∃ fr, encodeReplies mode temp fan s fr ∧
      (bitsVal ((fr.drop 40).take 4) : Int) = temp - 17 ∧ bitsVal ((fr.drop 40).take 4) ≤ 13

/-- The frame's fan code, at positions 48..51: 0 for fan speed 0, else (fanSpeed div 20) * 2 + 2, one of 2, 4, .., 12
(spec/40_encoder.md R68). -/
def Obligations.FanCodeField : Prop :=
  ∀ (mode : ModeArg) (m : Mode) (temp fan : Int) (s : State), validCommand mode m temp fan →
    ∃ fr, encodeReplies mode temp fan s fr ∧
      (fan = 0 → bitsVal ((fr.drop 48).take 4) = 0) ∧
      (0 < fan → (bitsVal ((fr.drop 48).take 4) : Int) = (fan.tdiv 20) * 2 + 2 ∧
        bitsVal ((fr.drop 48).take 4) ∈ [2, 4, 6, 8, 10, 12])

/-- The frame's mode code, at positions 54..55: AUTO 0, COOL 1, HEAT 3, OFF 3; never 2 (spec/40_encoder.md R69). -/
def Obligations.ModeCodeField : Prop :=
  ∀ (mode : ModeArg) (m : Mode) (temp fan : Int) (s : State), validCommand mode m temp fan →
    ∃ fr, encodeReplies mode temp fan s fr ∧
      (m = .auto → bitsVal ((fr.drop 54).take 2) = 0) ∧
      (m = .cool → bitsVal ((fr.drop 54).take 2) = 1) ∧
      (m = .heat → bitsVal ((fr.drop 54).take 2) = 3) ∧
      (m = .off → bitsVal ((fr.drop 54).take 2) = 3) ∧
      bitsVal ((fr.drop 54).take 2) ≠ 2

/-- The power bit is 1 for OFF and 0 otherwise, at positions 53 and 69 alike (spec/40_encoder.md R70). -/
def Obligations.PowerBitField : Prop :=
  ∀ (mode : ModeArg) (m : Mode) (temp fan : Int) (s : State), validCommand mode m temp fan →
    ∃ fr, encodeReplies mode temp fan s fr ∧
      fr[53]? = some (decide (m = .off)) ∧ fr[69]? = some (decide (m = .off))

/-- checksum1, at positions 64..67, is the sum of the temperature and fan codes modulo 16 (spec/40_encoder.md R71). -/
def Obligations.FirstChecksumField : Prop :=
  ∀ (mode : ModeArg) (m : Mode) (temp fan : Int) (s : State), validCommand mode m temp fan →
    ∃ fr, encodeReplies mode temp fan s fr ∧
      bitsVal ((fr.drop 64).take 4) =
        (bitsVal ((fr.drop 40).take 4) + bitsVal ((fr.drop 48).take 4)) % 16

/-- checksum2, at positions 70..71, is the mode code with its low bit inverted: AUTO 1, COOL 0, HEAT 2, OFF 2; never 3
(spec/40_encoder.md R72). -/
def Obligations.SecondChecksumField : Prop :=
  ∀ (mode : ModeArg) (m : Mode) (temp fan : Int) (s : State), validCommand mode m temp fan →
    ∃ fr, encodeReplies mode temp fan s fr ∧
      bitsVal ((fr.drop 70).take 2) = bitsVal ((fr.drop 54).take 2) ^^^ 1 ∧
      (m = .auto → bitsVal ((fr.drop 70).take 2) = 1) ∧
      (m = .cool → bitsVal ((fr.drop 70).take 2) = 0) ∧
      (m = .heat → bitsVal ((fr.drop 70).take 2) = 2) ∧
      (m = .off → bitsVal ((fr.drop 70).take 2) = 2) ∧
      bitsVal ((fr.drop 70).take 2) ≠ 3

/-- For a valid command the codes fit their widths (spec/40_encoder.md R74). -/
def Obligations.CodesFitTheirWidths : Prop :=
  ∀ (mode : ModeArg) (m : Mode) (temp fan : Int), validCommand mode m temp fan →
    temperatureCode temp ≤ 13 ∧ fanCode fan ∈ [0, 2, 4, 6, 8, 10, 12] ∧ modeCode m ∈ [0, 1, 3] ∧
    checksum2 (modeCode m) ∈ [1, 0, 2] ∧ checksum1 (temperatureCode temp) (fanCode fan) ≤ 15 ∧
    powerBit m ∈ [0, 1] ∧ (encodedFrame m temp fan).length = 72

/-- Every frame a valid ENCODE returns is a well-formed FRAME72: header, padding, repeated power bit and both checksums, as the
re-parse reads them (spec/30_encoding.md R47). -/
def Obligations.EncodedFramesAreWellFormed : Prop :=
  ∀ (mode : ModeArg) (m : Mode) (temp fan : Int) (s : State), validCommand mode m temp fan →
    ∃ fr, encodeReplies mode temp fan s fr ∧ wellFormedFrame72 fr

/-- encode is a pure function: whatever the two states, the same operands give the same reply (spec/40_encoder.md R75). -/
def Obligations.EncodeIsDeterministic : Prop :=
  ∀ (mode : ModeArg) (temp fan : Int) (s s' t t' : State),
    exec (.encode mode temp fan) s = .next t → exec (.encode mode temp fan) s' = .next t' →
    t.replies.drop s.replies.length = t'.replies.drop s'.replies.length ∧
    (t.replies.drop s.replies.length).length = 1

/-- For equal temperature and fan the OFF frame and the HEAT frame differ at positions 53 and 69 and nowhere else
(spec/40_encoder.md R76). -/
def Obligations.OffAndHeatDifferInPowerBits : Prop :=
  ∀ (temp fan : Int) (s : State), 17 ≤ temp → temp ≤ 30 → 0 ≤ fan → fan ≤ 100 →
    ∃ a b, encodeReplies (.named .off) temp fan s a ∧ encodeReplies (.named .heat) temp fan s b ∧
      ∀ p, a[p]? ≠ b[p]? ↔ p = 53 ∨ p = 69

/-- Two valid commands with the same frame have the same mode, temperature and fan code (spec/30_encoding.md R49: 392 distinct
frames). -/
def Obligations.FramesTellCommandsApart : Prop :=
  ∀ (mode mode' : ModeArg) (m m' : Mode) (temp temp' fan fan' : Int),
    validCommand mode m temp fan → validCommand mode' m' temp' fan' →
    encodedFrame m temp fan = encodedFrame m' temp' fan' →
    m = m' ∧ temp = temp' ∧ fanCode fan = fanCode fan'

/-! ### TRANSMIT, FRAME72, SEND -/

/-- In a ready state TRANSMIT latches a frame of ZERO and ONE symbols of any length within MAX_FRAME_LEN, which by default has no
bound, and enters Run(0), and writes nothing else (spec/41_transmitter.md R80 to R82, spec/20_memory.md R32, spec/00_scope.md R5;
requester, trace and history are the model's record of the request, log entries 25, 27). -/
def Obligations.TransmitAcceptsWhenReady : Prop :=
  ∀ (frame : List Sys2Proof.Symbol) (s : State), s.busy = false → withinBound s frame.length → hasOther frame = false →
    exec (.transmit frame) s =
      .next { s with
        framebuf := some frame
        tx := .run 0
        requester := some .transmit
        history := s.history ++ s.trace
        trace := [] }

/-- A frame within MAX_FRAME_LEN with an OTHER symbol at any position is rejected before any primitive call: TX goes to Aborted at
once, RESULT and the reply are InvalidArgument, FRAMEBUF and LEN hold the rejected frame but no position of it can be read, CARRIER is unchanged and
the trace is empty (spec/60_exceptions.md R117). -/
def Obligations.TransmitRejectsOtherSymbols : Prop :=
  ∀ (frame : List Sys2Proof.Symbol) (p c : Nat) (s : State), s.busy = false → withinBound s frame.length →
    frame[p]? = some (.other c) →
    ∃ t, exec (.transmit frame) s = .next t ∧
      t = { s with
        framebuf := some frame
        tx := .aborted
        result := .invalidArgument
        requester := none
        replies := s.replies ++ [⟨.transmit, .invalidArgument, none⟩]
        history := s.history ++ s.trace
        trace := [] } ∧
      t.len = some frame.length ∧ ∀ i, t.memRead i = none

/-- In a ready state a FRAME72 is handed to the transmitter with its 72 bits as symbols, whatever its checksums say, and so is any
frame presented as bits, whatever its length (within MAX_FRAME_LEN), header, padding or checksums: nothing of it is looked at
(spec/20_memory.md R44, spec/30_encoding.md R58; that FRAME72 acts so and that the host can present bits are the model's choices,
log entries 2, 9). -/
def Obligations.FrameHandOverTransmits : Prop :=
  (∀ (t f : BitVec 4) (p : BitVec 1) (m : BitVec 2) (c : BitVec 4) (k : BitVec 2) (s : State), s.busy = false →
    withinBound s 72 →
    exec (.frame72 t f p m c k) s =
      .next { s with
        framebuf := some ((frame72Bits t f p m c k).map fun b => if b then .one else .zero)
        tx := .run 0
        requester := some .transmit
        history := s.history ++ s.trace
        trace := [] }) ∧
  (∀ (bits : Bits) (s : State) (rest : List Input), s.inbox = .frame bits :: rest → s.busy = false →
    withinBound s bits.length →
    step s =
      .next { s with
        inbox := rest
        framebuf := some (bits.map fun b => if b then .one else .zero)
        tx := .run 0
        requester := some .transmit
        history := s.history ++ s.trace
        trace := [] })

/-- A ready block with a bound MAX_FRAME_LEN refuses a longer frame, of TRANSMIT, FRAME72 and a valid SEND alike, and does not
truncate it (spec/93_implementation_defined.md U15, spec/00_scope.md R5; log entry 12). -/
def Obligations.TooLongFramesRefused : Prop :=
  ∀ (s : State) (n : Nat), s.busy = false → s.maxFrameLen = some n →
    (∀ frame : List Sys2Proof.Symbol, n < frame.length → exec (.transmit frame) s = .refused .frameTooLong) ∧
    (n < 72 → ∀ t f p m c k, exec (.frame72 t f p m c k) s = .refused .frameTooLong) ∧
    (n < 72 → ∀ mode m temp fan, validCommand mode m temp fan → exec (.send mode temp fan) s = .refused .frameTooLong)

/-- In a ready state SEND of a valid command snapshots it, encodes it and starts one transmission of the encoder's frame, whose 72
symbols are within MAX_FRAME_LEN (spec/42_pipeline.md R105, R107, spec/00_scope.md R5). -/
def Obligations.SendEncodesAndStarts : Prop :=
  ∀ (mode : ModeArg) (m : Mode) (temp fan : Int) (s : State), validCommand mode m temp fan → s.busy = false →
    withinBound s 72 →
    exec (.send mode temp fan) s =
      .next { s with
        cmd := some ⟨mode, temp, fan⟩
        framebuf := some ((encodedFrame m temp fan).map fun b => if b then .one else .zero)
        tx := .run 0
        requester := some .send
        history := s.history ++ s.trace
        trace := [] }

/-- In a ready state SEND of an out-of-range command reports InvalidArgument and leaves TX, FRAMEBUF and CARRIER as they were: the
transmitter is never started (spec/42_pipeline.md R105, spec/60_exceptions.md R116). -/
def Obligations.SendRejectsOutOfRange : Prop :=
  ∀ (mode : ModeArg) (temp fan : Int) (s : State), invalidCommand mode temp fan → s.busy = false →
    exec (.send mode temp fan) s =
      .next { s with
        cmd := some ⟨mode, temp, fan⟩
        result := .invalidArgument
        replies := s.replies ++ [⟨.send, .invalidArgument, none⟩] }

/-- A transmitter request while TX is Run(K) changes nothing but the run's mark (spec/70_reset_and_hazards.md section 3; that the
request is dropped with a mark is the model's choice, log entry 3). -/
def Obligations.BusyRequestsLeaveOnlyAMark : Prop :=
  ∀ (s : State), s.busy = true →
    (∀ frame, exec (.transmit frame) s = .next { s with overlap := true }) ∧
    (∀ mode temp fan, exec (.send mode temp fan) s = .next { s with overlap := true }) ∧
    (∀ t f p m c k, exec (.frame72 t f p m c k) s = .next { s with overlap := true })

/-- Done and Aborted accept a request exactly as Idle does (spec/10_state.md R17). -/
def Obligations.TerminalStatesAcceptAsIdle : Prop :=
  ∀ (s : State) (i : Instr), s.busy = false →
    (∃ frame, i = .transmit frame) ∨
      (∃ mode m temp fan, validCommand mode m temp fan ∧ i = .send mode temp fan) ∨
      (∃ t f p m c k, i = .frame72 t f p m c k) →
    exec i s = exec i { s with tx := .idle }

/-! ### The schedule -/

/-- The schedule written as two copies of the pulse train is, position by position, what the sequencer's table gives
(spec/10_state.md R16, spec/41_transmitter.md R83, R84). -/
def Obligations.ScheduleAgreesWithPositions : Prop :=
  ∀ (f : List Sys2Proof.Symbol) (k : Nat), hasOther f = false → (schedule f)[k]? = scheduleAt f k

/-- One transmission has 2 * (2 + 2L + 2) half-intervals, half of them marks (spec/41_transmitter.md R93). -/
def Obligations.PulseCount : Prop :=
  ∀ (f : List Sys2Proof.Symbol),
    (schedule f).length = 2 * (2 + 2 * f.length + 2) ∧
    ((schedule f).filter fun h => h.level = .on).length = 4 + 2 * f.length

/-- The durations of one transmission sum to twice 16760 + 1080 L + 1080 ones (spec/41_transmitter.md R94). -/
def Obligations.NominalDuration : Prop :=
  ∀ (f : List Sys2Proof.Symbol), hasOther f = false →
    totalMicroseconds (frameHalves f) = 16760 + 1080 * f.length + 1080 * onesOf f ∧
    totalMicroseconds (schedule f) = 2 * (16760 + 1080 * f.length + 1080 * onesOf f)

/-- A frame can be read back from its pulse train, so the train tells validated frames apart (spec/41_transmitter.md R96). -/
def Obligations.TrainReadsBack : Prop :=
  (∀ (f : List Sys2Proof.Symbol), hasOther f = false → readTrain (pulseTrain f) = f.map some) ∧
  (∀ (f g : List Sys2Proof.Symbol), hasOther f = false → hasOther g = false → pulseTrain f = pulseTrain g → f = g)

/-- Levels alternate beginning with on; a mark lasts 4400 or 560, a space 4350, 520, 1600 or 7450 (spec/41_transmitter.md R95). -/
def Obligations.ScheduleShape : Prop :=
  ∀ (f : List Sys2Proof.Symbol) (k : Nat) (h : Half), scheduleAt f k = some h →
    (h.level = .on ↔ k % 2 = 0) ∧
    (h.level = .on → h.microseconds = 4400 ∨ h.microseconds = 560) ∧
    (h.level = .off → h.microseconds = 4350 ∨ h.microseconds = 520 ∨ h.microseconds = 1600 ∨ h.microseconds = 7450)

/-- In Run(K) of a frame of L symbols the header is sent exactly at K = 0, 1, PER, PER + 1, the end exactly at the last two
half-intervals of each frame, and in SendingBits(I) the index I is below L (spec/41_transmitter.md R87, R90,
spec/10_state.md R24 (b)). -/
def Obligations.HeaderAndEndPositions : Prop :=
  ∀ (len k : Nat), k < 4 * len + 8 →
    (phaseAt len k = .sendingHeader ↔ k = 0 ∨ k = 1 ∨ k = 2 * len + 4 ∨ k = 2 * len + 5) ∧
    (phaseAt len k = .sendingEnd ↔
      k = 2 * len + 2 ∨ k = 2 * len + 3 ∨ k = 4 * len + 6 ∨ k = 4 * len + 7) ∧
    (∀ i, phaseAt len k = .sendingBits i → i < len)

/-! ### The pulse elements -/

/-- HDR in SendingHeader, the call answered ok: on for 4400 or off for 4350, then the next half-interval
(spec/41_transmitter.md R85, R87). -/
def Obligations.HeaderElementEmits : Prop :=
  ∀ (s : State) (k : Nat) (f : List Sys2Proof.Symbol), s.tx = .run k → s.framebuf = some f → k < 4 * f.length + 8 →
    k % (2 * f.length + 4) < 2 → s.answer = .ok →
    exec .hdr s =
      .next { s with
        carrier := if k % 2 = 0 then .on else .off
        trace := s.trace ++ (if k % 2 = 0 then [.setCarrier .on .ok, .delay 4400]
          else [.setCarrier .off .ok, .delay 4350])
        answers := s.answers.tail
        draws := s.draws + 1
        tx := .run (k + 1) }

/-- BIT0 at a ZERO symbol, the call answered ok: on for 560 or off for 520, then the next half-interval
(spec/41_transmitter.md R85, R88). -/
def Obligations.ZeroBitElementEmits : Prop :=
  ∀ (s : State) (k : Nat) (f : List Sys2Proof.Symbol), s.tx = .run k → s.framebuf = some f → k < 4 * f.length + 8 →
    2 ≤ k % (2 * f.length + 4) → f[(k % (2 * f.length + 4) - 2) / 2]? = some .zero → s.answer = .ok →
    exec .bit0 s =
      .next { s with
        carrier := if k % 2 = 0 then .on else .off
        trace := s.trace ++ (if k % 2 = 0 then [.setCarrier .on .ok, .delay 560]
          else [.setCarrier .off .ok, .delay 520])
        answers := s.answers.tail
        draws := s.draws + 1
        tx := .run (k + 1) }

/-- BIT1 at a ONE symbol, the call answered ok: on for 560 or off for 1600, then the next half-interval
(spec/41_transmitter.md R85, R89). -/
def Obligations.OneBitElementEmits : Prop :=
  ∀ (s : State) (k : Nat) (f : List Sys2Proof.Symbol), s.tx = .run k → s.framebuf = some f → k < 4 * f.length + 8 →
    2 ≤ k % (2 * f.length + 4) → f[(k % (2 * f.length + 4) - 2) / 2]? = some .one → s.answer = .ok →
    exec .bit1 s =
      .next { s with
        carrier := if k % 2 = 0 then .on else .off
        trace := s.trace ++ (if k % 2 = 0 then [.setCarrier .on .ok, .delay 560]
          else [.setCarrier .off .ok, .delay 1600])
        answers := s.answers.tail
        draws := s.draws + 1
        tx := .run (k + 1) }

/-- END in SendingEnd before the request's last half-interval, the call answered ok: on for 560 or off for 7450, then the next
half-interval (spec/41_transmitter.md R85, R90). -/
def Obligations.EndElementEmits : Prop :=
  ∀ (s : State) (k : Nat) (f : List Sys2Proof.Symbol), s.tx = .run k → s.framebuf = some f → k + 1 < 4 * f.length + 8 →
    2 * f.length + 2 ≤ k % (2 * f.length + 4) → s.answer = .ok →
    exec .endMarker s =
      .next { s with
        carrier := if k % 2 = 0 then .on else .off
        trace := s.trace ++ (if k % 2 = 0 then [.setCarrier .on .ok, .delay 560]
          else [.setCarrier .off .ok, .delay 7450])
        answers := s.answers.tail
        draws := s.draws + 1
        tx := .run (k + 1) }

/-- The request's last half-interval, the second frame's end space, answered ok: TX Done, RESULT OK, CARRIER off, the requester
released, the frame discarded, no call after the delay (spec/41_transmitter.md R91, spec/10_state.md R18; that FRAMEBUF then holds no
value: spec/93_implementation_defined.md U10, log entry 16). -/
def Obligations.LastHalfCompletes : Prop :=
  ∀ (s : State) (f : List Sys2Proof.Symbol) (op : Op), s.tx = .run (4 * f.length + 7) → s.framebuf = some f →
    s.requester = some op → s.answer = .ok →
    exec .endMarker s =
      .next { s with
        carrier := .off
        trace := s.trace ++ [.setCarrier .off .ok, .delay 7450]
        answers := s.answers.tail
        draws := s.draws + 1
        framebuf := none
        tx := .done
        result := .ok
        requester := none
        replies := s.replies ++ [⟨op, .ok, none⟩] }

/-- A selected element whose call answers fail: no delay, no further call, TX Aborted, RESULT HardwareFailure, the requester
released, the frame discarded (spec/41_transmitter.md R86, spec/60_exceptions.md R114, R118, spec/10_state.md R18, 93 U10; log
entry 16); CARRIER is the draw for this call, a free value (log entry 5). -/
def Obligations.FailedCallAborts : Prop :=
  ∀ (e : Element) (s : State) (k : Nat) (f : List Sys2Proof.Symbol) (op : Op), s.tx = .run k → s.framebuf = some f →
    elementAt f k = some e → s.requester = some op → s.answer = .fail →
    exec (instrOf e) s =
      .next { s with
        carrier := Config.freeLevel s.draws
        trace := s.trace ++ [.setCarrier (if k % 2 = 0 then .on else .off) .fail]
        answers := s.answers.tail
        draws := s.draws + 1
        framebuf := none
        tx := .aborted
        result := .hardwareFailure
        requester := none
        replies := s.replies ++ [⟨op, .hardwareFailure, none⟩] }

/-- From the mark of an element, two executions answered ok make its mark and then its space, and stand two half-intervals on or,
at the end of the request, in Done (spec/41_transmitter.md R87 to R90: two steps of R85; one half-interval an execution is the
model's reading, log entry 14). -/
def Obligations.ElementIsTwoSteps : Prop :=
  ∀ (e : Element) (s : State) (k : Nat) (f : List Sys2Proof.Symbol) (rest : List Answer),
    s.tx = .run k → s.framebuf = some f → k % 2 = 0 → elementAt f k = some e → s.answers = .ok :: .ok :: rest →
    ∃ mid t, exec (instrOf e) s = .next mid ∧ exec (instrOf e) mid = .next t ∧
      t.trace = s.trace ++ [.setCarrier .on .ok, .delay (markOf e), .setCarrier .off .ok, .delay (spaceOf e)] ∧
      t.answers = rest ∧ t.carrier = .off ∧
      t.tx = (if k + 2 = 4 * f.length + 8 then .done else .run (k + 2)) ∧
      t.framebuf = (if k + 2 = 4 * f.length + 8 then none else some f)

/-- An element the sequencer does not select is refused by name and does nothing (spec/30_encoding.md R54 gives an element no
meaning outside its selection; the refusal is the model's choice, log entry 13). -/
def Obligations.UnselectedElementRefused : Prop :=
  ∀ (e : Element) (s : State),
    (∀ k f, s.tx = .run k → s.framebuf = some f → elementAt f k ≠ some e) →
    exec (instrOf e) s = .refused (.elementNotSelected e)

/-! ### The step -/

/-- A step runs the decoded instruction: a presented request or frame that decodes to i runs i after it is taken from the inbox;
with nothing presented, what the sequencer fetches in Run(K) and decodes to i runs i (spec/00_scope.md R8, R9, spec/30_encoding.md
R50, R54). The inbox and its order are the model's choice (log entry 9), and so are the form of a request (log entry 1) and the
frame object with its reading as FRAME72 (log entries 2, 23). -/
def Obligations.StepRunsDecodedInstruction : Prop :=
  (∀ (s : State) (r : Request) (rest : List Input) (i : Instr), s.inbox = .request r :: rest →
    decode (.request r) = .ok i → step s = exec i { s with inbox := rest }) ∧
  (∀ (s : State) (bits : Bits) (rest : List Input) (i : Instr), s.inbox = .frame bits :: rest →
    decode (.frame bits) = .ok i → step s = exec i { s with inbox := rest }) ∧
  (∀ (s : State) (k : Nat) (c : Code) (i : Instr), quiet s → s.tx = .run k → s.fetch = some c →
    decode c = .ok i → step s = exec i { s with inbox := s.inbox.tail })

/-- What the sequencer fetches decodes to the element that the position and the symbol select (spec/30_encoding.md R54,
spec/10_state.md R16). -/
def Obligations.FetchDecodesToSelectedElement : Prop :=
  ∀ (s : State) (k : Nat) (f : List Sys2Proof.Symbol) (e : Element), s.tx = .run k → s.framebuf = some f →
    elementAt f k = some e → ∃ c, s.fetch = some c ∧ decode c = .ok (instrOf e)

/-- A ready block to which nothing is presented waits: its step changes nothing (spec/60_exceptions.md R127, "a ready block simply
waits for a request"; the inbox slot is the model's, log entry 9). -/
def Obligations.ReadyBlockWaits : Prop :=
  ∀ (s : State), s.busy = false → quiet s → step s = .next { s with inbox := s.inbox.tail }

/-- Reset as an event: every element of the block takes its reset value, no reply is given and no call made for the request in
progress (spec/70_reset_and_hazards.md section 1; the event is the model's choice, log entry 11). -/
def Obligations.ResetLosesTheRequest : Prop :=
  ∀ (s : State) (rest : List Input), s.inbox = .reset :: rest →
    step s = .next { State.reset with
      history := s.history ++ s.trace
      replies := s.replies
      overlap := s.overlap
      inbox := rest
      answers := s.answers
      draws := s.draws
      maxFrameLen := s.maxFrameLen }

/-- After reset: TX Idle, RESULT None, which has no code, CARRIER off, CMD, FRAMEBUF and LEN hold no value, and MAX_FRAME_LEN has its
default, no bound (spec/10_state.md section 8: the spec's own decision 92 D15; spec/00_scope.md section 4; log entries 6, 7, 12). -/
def Obligations.ResetValues : Prop :=
  State.reset.tx = .idle ∧ State.reset.result = .none ∧ State.reset.carrier = .off ∧ State.reset.cmd = none ∧
    State.reset.framebuf = none ∧ State.reset.len = none ∧ State.reset.resultCode = none ∧
    State.reset.maxFrameLen = none ∧ core.reset = State.reset

/-! ### Invariants and rules of the whole machine -/

/-- The invariant holds after reset. -/
def Obligations.InvariantHoldsAtReset : Prop := Good State.reset

/-- Every step keeps the invariant, from every state that meets it: the position inside the latched, validated frame, the
requester, the trace as the schedule says, FRAMEBUF without a value where no frame is in hand, the line's level, and RESULT against TX
after TRANSMIT and after SEND (spec/10_state.md R18, R21, R24, spec/70_reset_and_hazards.md R150). -/
def Obligations.StepKeepsInvariant : Prop :=
  ∀ (s t : State), Good s → step s = .next t → Good t

/-- R24 (a) by itself is kept by every step: in Run(K), K is inside the schedule and every symbol is ZERO or ONE. -/
def Obligations.StepKeepsPositionGood : Prop :=
  ∀ (s t : State), positionGood s → step s = .next t → positionGood t

/-- From every state whose position is good, the block's own move goes on: the sequencer never meets a read out of range, an OTHER
symbol or an element it does not select (spec/20_memory.md R31, spec/10_state.md R24). -/
def Obligations.OwnMoveNeverStops : Prop :=
  ∀ (s : State), positionGood s → quiet s → goesOn (step s)

/-- The control flow is that of R92. A reset, and nothing else, goes to Idle from another state. While a request or a frame is taken,
Run(K) stays Run(K). Left to itself, Run(K) goes, where the call answers ok, to Run(K + 1) inside the schedule and to Done from its
last half-interval only, and, where it answers fail, to Aborted. A ready state stays, or goes to Run(0) with a validated frame, or to
Aborted with a rejected one, and it stays where nothing is presented (spec/41_transmitter.md R92, spec/10_state.md R15; reset as an
input and the inbox are the model's, log entries 9, 11). -/
def Obligations.ControlFlow : Prop :=
  ∀ (s t : State), step s = .next t →
    ((∃ rest, s.inbox = .reset :: rest) → t.tx = .idle) ∧
    (t.tx = .idle → s.tx = .idle ∨ ∃ rest, s.inbox = .reset :: rest) ∧
    (∀ k, s.tx = .run k →
      (∃ rest, (∃ r, s.inbox = .request r :: rest) ∨ ∃ bits, s.inbox = .frame bits :: rest) → t.tx = .run k) ∧
    (∀ k, s.tx = .run k → quiet s →
      (s.answer = .ok ∧ ∃ f, s.framebuf = some f ∧
        ((k + 1 < 4 * f.length + 8 ∧ t.tx = .run (k + 1)) ∨ (k + 1 = 4 * f.length + 8 ∧ t.tx = .done))) ∨
      (s.answer = .fail ∧ t.tx = .aborted)) ∧
    (s.busy = false → quiet s → t.tx = s.tx) ∧
    (s.busy = false → (∀ rest, s.inbox ≠ .reset :: rest) →
      t.tx = s.tx ∨ (t.tx = .run 0 ∧ ∃ f, t.framebuf = some f ∧ hasOther f = false) ∨
        (t.tx = .aborted ∧ ∃ f, t.framebuf = some f ∧ hasOther f = true))

/-- While a transmission runs nothing but a reset changes FRAMEBUF, and when it ends the frame is discarded: FRAMEBUF then holds no
value (spec/20_memory.md R32, R42, spec/10_state.md R18; log entry 16). -/
def Obligations.FrameBufferFixedWhileRunning : Prop :=
  ∀ (s t : State), s.busy = true → (∀ rest, s.inbox ≠ .reset :: rest) → step s = .next t →
    (t.busy = true → t.framebuf = s.framebuf) ∧ (t.busy = false → t.framebuf = none)

/-- The operations and the hand-over make no primitive call: the line, the platform's answers, the calls made and the free-value
counter are unchanged (spec/40_encoder.md R65, spec/41_transmitter.md R82, spec/60_exceptions.md R116, R117). -/
def Obligations.RequestsMakeNoPrimitiveCall : Prop :=
  ∀ (s t : State) (i : Instr), (∀ e, i ≠ instrOf e) → exec i s = .next t →
    t.carrier = s.carrier ∧ t.answers = s.answers ∧ t.draws = s.draws ∧
    t.history ++ t.trace = s.history ++ s.trace

/-- One execution of a pulse element makes one set_carrier call, at the level of its half-interval, and, if it answered ok, one delay
call, and nothing is lost from the record (spec/41_transmitter.md R85, R86 of one step). The spec gives an element two such steps
(R54, R87 to R90); that one execution is one of them is the model's reading, log entry 14. -/
def Obligations.ElementsMakeOneCallPair : Prop :=
  ∀ (s t : State) (e : Element), exec (instrOf e) s = .next t →
    t.history = s.history ∧ t.cmd = s.cmd ∧ t.overlap = s.overlap ∧ t.inbox = s.inbox ∧ t.maxFrameLen = s.maxFrameLen ∧
    t.draws = s.draws + 1 ∧ t.answers = s.answers.tail ∧
    ∃ k, s.tx = .run k ∧
      ((s.answer = .ok ∧ t.trace = s.trace ++
          [.setCarrier (if k % 2 = 0 then .on else .off) .ok, .delay (if k % 2 = 0 then markOf e else spaceOf e)]) ∨
        (s.answer = .fail ∧ t.trace = s.trace ++ [.setCarrier (if k % 2 = 0 then .on else .off) .fail]))

/-- Only ENCODE and SEND write the command snapshot (spec/10_state.md R14). -/
def Obligations.OnlyEncodeAndSendWriteCommand : Prop :=
  ∀ (s t : State) (i : Instr), exec i s = .next t → t.cmd ≠ s.cmd →
    ∃ mode temp fan, t.cmd = some ⟨mode, temp, fan⟩ ∧ (i = .encode mode temp fan ∨ i = .send mode temp fan)

/-- RESULT is written exactly when an operation ends, with the outcome in its reply, which a host reads as the number 0 for OK, 1 for
either InvalidArgument and 2 for HardwareFailure (spec/10_state.md R19, spec/60_exceptions.md R110, 92 D6; the replies are the
model's record, log entries 10, 25). -/
def Obligations.ResultWrittenOncePerOperation : Prop :=
  ∀ (s t : State) (i : Instr), requesterGood s → exec i s = .next t →
    (t.replies = s.replies ∧ t.result = s.result) ∨
      ∃ r, t.replies = s.replies ++ [r] ∧ t.result = r.result ∧
        ((r.result = .ok ∧ t.resultCode = some 0) ∨ (r.result = .invalidArgument ∧ t.resultCode = some 1) ∨
          (r.result = .hardwareFailure ∧ t.resultCode = some 2))

/-- An ENCODE between two moves of the sequencer disturbs nothing of the transmission: it completes, the element that could execute
still executes after it, and the state is then the one without the ENCODE but for CMD, the ENCODE's reply before the element's, and
RESULT, which is the ENCODE's until the transmission ends (spec/40_encoder.md R65, 92 D29; log entry 10). -/
def Obligations.EncodeDoesNotDisturbTransmission : Prop :=
  ∀ (mode : ModeArg) (temp fan : Int) (s t : State) (e : Element), exec (instrOf e) s = .next t →
    ∃ s' t', exec (.encode mode temp fan) s = .next s' ∧ exec (instrOf e) s' = .next t' ∧
      (∃ r, r.op = .encode ∧ s'.result = r.result ∧ s'.replies = s.replies ++ [r]) ∧
      t' = { t with
        cmd := some ⟨mode, temp, fan⟩
        result := if t.busy then s'.result else t.result
        replies := s'.replies ++ t.replies.drop s.replies.length }

/-- The mark of an overlapping request is never taken back, and no step changes MAX_FRAME_LEN (spec/70_reset_and_hazards.md section 3,
spec/00_scope.md section 4; log entries 3, 12). -/
def Obligations.OverlapMarkStays : Prop :=
  ∀ (s t : State), step s = .next t → (s.overlap = true → t.overlap = true) ∧ t.maxFrameLen = s.maxFrameLen

/-- The frame's diagnostic string converts back to the symbols the transmitter sends (spec/20_memory.md R44,
spec/30_encoding.md R53). -/
def Obligations.DiagnosticStringConvertsBack : Prop :=
  ∀ (s : Bits), symbolsOfString (diagnosticString s) = s.map (fun b => if b then .one else .zero) ∧
    (diagnosticString s).length = s.length

/-! ### Whole transmissions -/

/-- With every answer ok and nothing presented, a validated frame's transmission runs through its 4L + 8 half-intervals to Done,
RESULT OK, CARRIER off, the frame discarded, having made exactly the calls of the schedule (spec/41_transmitter.md R80, R91, R93,
spec/10_state.md R18; log entry 16). -/
def Obligations.AllOkTransmissionCompletes : Prop :=
  ∀ (s : State) (f : List Sys2Proof.Symbol) (op : Op) (rest : List Answer),
    s.tx = .run 0 → s.framebuf = some f → hasOther f = false → s.inbox = [] → s.requester = some op →
    s.answers = List.replicate (4 * f.length + 8) .ok ++ rest →
    Host.Core.run core (4 * f.length + 8) s =
      .next { s with
        framebuf := none
        tx := .done
        result := .ok
        carrier := .off
        requester := none
        trace := s.trace ++ (schedule f).flatMap emittedCalls
        replies := s.replies ++ [⟨op, .ok, none⟩]
        answers := rest
        draws := s.draws + (4 * f.length + 8) }

/-- When call K is the first to answer fail, the first K half-intervals are emitted whole, the failed call is the last, and the
request ends Aborted with HardwareFailure, the frame discarded (spec/41_transmitter.md R86, spec/60_exceptions.md R118,
spec/10_state.md R18; log entry 16); CARRIER is the draw (log entry 5). -/
def Obligations.FirstFailureEndsTransmission : Prop :=
  ∀ (s : State) (f : List Sys2Proof.Symbol) (op : Op) (k : Nat) (h : Half) (rest : List Answer),
    s.tx = .run 0 → s.framebuf = some f → hasOther f = false → s.inbox = [] → s.requester = some op →
    (schedule f)[k]? = some h → s.answers = List.replicate k .ok ++ .fail :: rest →
    Host.Core.run core (k + 1) s =
      .next { s with
        framebuf := none
        tx := .aborted
        result := .hardwareFailure
        carrier := Config.freeLevel (s.draws + k)
        requester := none
        trace := s.trace ++ emittedTrace f k ++ [.setCarrier h.level .fail]
        replies := s.replies ++ [⟨op, .hardwareFailure, none⟩]
        answers := rest
        draws := s.draws + (k + 1) }

/-- Whatever the platform answers, a transmission with nothing presented ends in Done or Aborted after at most its remaining
half-intervals (spec/41_transmitter.md R92). -/
def Obligations.TransmissionEnds : Prop :=
  ∀ (s : State) (f : List Sys2Proof.Symbol) (k : Nat), positionGood s → s.tx = .run k → s.framebuf = some f → s.inbox = [] →
    ∃ n t, n ≤ 4 * f.length + 8 - k ∧ Host.Core.run core n s = .next t ∧ (t.tx = .done ∨ t.tx = .aborted)
end

