-- ==== Sys2Proof/Laws/State.lean ====
section
/-! SUPPORT. One lemma per field per update of State, true by rfl, so that no later proof unfolds a record update. -/

namespace Sys2Proof.Laws

open Sys2Proof.Machine

/-! ### setCarrier -/

@[simp] theorem setCarrier_cmd (l : Level) (s : State) : (s.setCarrier l).cmd = s.cmd := rfl
@[simp] theorem setCarrier_framebuf (l : Level) (s : State) : (s.setCarrier l).framebuf = s.framebuf := rfl
@[simp] theorem setCarrier_tx (l : Level) (s : State) : (s.setCarrier l).tx = s.tx := rfl
@[simp] theorem setCarrier_result (l : Level) (s : State) : (s.setCarrier l).result = s.result := rfl
@[simp] theorem setCarrier_carrier (l : Level) (s : State) : (s.setCarrier l).carrier = if s.answer = .ok then l else Config.freeLevel s.draws := rfl
@[simp] theorem setCarrier_requester (l : Level) (s : State) : (s.setCarrier l).requester = s.requester := rfl
@[simp] theorem setCarrier_trace (l : Level) (s : State) : (s.setCarrier l).trace = s.trace ++ [.setCarrier l s.answer] := rfl
@[simp] theorem setCarrier_history (l : Level) (s : State) : (s.setCarrier l).history = s.history := rfl
@[simp] theorem setCarrier_replies (l : Level) (s : State) : (s.setCarrier l).replies = s.replies := rfl
@[simp] theorem setCarrier_overlap (l : Level) (s : State) : (s.setCarrier l).overlap = s.overlap := rfl
@[simp] theorem setCarrier_inbox (l : Level) (s : State) : (s.setCarrier l).inbox = s.inbox := rfl
@[simp] theorem setCarrier_answers (l : Level) (s : State) : (s.setCarrier l).answers = s.answers.tail := rfl
@[simp] theorem setCarrier_draws (l : Level) (s : State) : (s.setCarrier l).draws = s.draws + 1 := rfl
@[simp] theorem setCarrier_maxFrameLen (l : Level) (s : State) : (s.setCarrier l).maxFrameLen = s.maxFrameLen := rfl

/-! ### delay -/

@[simp] theorem delay_cmd (n : Nat) (s : State) : (s.delay n).cmd = s.cmd := rfl
@[simp] theorem delay_framebuf (n : Nat) (s : State) : (s.delay n).framebuf = s.framebuf := rfl
@[simp] theorem delay_tx (n : Nat) (s : State) : (s.delay n).tx = s.tx := rfl
@[simp] theorem delay_result (n : Nat) (s : State) : (s.delay n).result = s.result := rfl
@[simp] theorem delay_carrier (n : Nat) (s : State) : (s.delay n).carrier = s.carrier := rfl
@[simp] theorem delay_requester (n : Nat) (s : State) : (s.delay n).requester = s.requester := rfl
@[simp] theorem delay_trace (n : Nat) (s : State) : (s.delay n).trace = s.trace ++ [.delay n] := rfl
@[simp] theorem delay_history (n : Nat) (s : State) : (s.delay n).history = s.history := rfl
@[simp] theorem delay_replies (n : Nat) (s : State) : (s.delay n).replies = s.replies := rfl
@[simp] theorem delay_overlap (n : Nat) (s : State) : (s.delay n).overlap = s.overlap := rfl
@[simp] theorem delay_inbox (n : Nat) (s : State) : (s.delay n).inbox = s.inbox := rfl
@[simp] theorem delay_answers (n : Nat) (s : State) : (s.delay n).answers = s.answers := rfl
@[simp] theorem delay_draws (n : Nat) (s : State) : (s.delay n).draws = s.draws := rfl
@[simp] theorem delay_maxFrameLen (n : Nat) (s : State) : (s.delay n).maxFrameLen = s.maxFrameLen := rfl

/-! ### reply -/

@[simp] theorem reply_cmd (op : Option Op) (r : Result) (fr : Option Bits) (s : State) : (s.reply op r fr).cmd = s.cmd := rfl
@[simp] theorem reply_framebuf (op : Option Op) (r : Result) (fr : Option Bits) (s : State) : (s.reply op r fr).framebuf = s.framebuf := rfl
@[simp] theorem reply_tx (op : Option Op) (r : Result) (fr : Option Bits) (s : State) : (s.reply op r fr).tx = s.tx := rfl
@[simp] theorem reply_result (op : Option Op) (r : Result) (fr : Option Bits) (s : State) : (s.reply op r fr).result = r := rfl
@[simp] theorem reply_carrier (op : Option Op) (r : Result) (fr : Option Bits) (s : State) : (s.reply op r fr).carrier = s.carrier := rfl
@[simp] theorem reply_requester (op : Option Op) (r : Result) (fr : Option Bits) (s : State) : (s.reply op r fr).requester = s.requester := rfl
@[simp] theorem reply_trace (op : Option Op) (r : Result) (fr : Option Bits) (s : State) : (s.reply op r fr).trace = s.trace := rfl
@[simp] theorem reply_history (op : Option Op) (r : Result) (fr : Option Bits) (s : State) : (s.reply op r fr).history = s.history := rfl
@[simp] theorem reply_replies (op : Option Op) (r : Result) (fr : Option Bits) (s : State) : (s.reply op r fr).replies = s.replies ++ (op.map fun o => ⟨o, r, fr⟩).toList := rfl
@[simp] theorem reply_overlap (op : Option Op) (r : Result) (fr : Option Bits) (s : State) : (s.reply op r fr).overlap = s.overlap := rfl
@[simp] theorem reply_inbox (op : Option Op) (r : Result) (fr : Option Bits) (s : State) : (s.reply op r fr).inbox = s.inbox := rfl
@[simp] theorem reply_answers (op : Option Op) (r : Result) (fr : Option Bits) (s : State) : (s.reply op r fr).answers = s.answers := rfl
@[simp] theorem reply_draws (op : Option Op) (r : Result) (fr : Option Bits) (s : State) : (s.reply op r fr).draws = s.draws := rfl
@[simp] theorem reply_maxFrameLen (op : Option Op) (r : Result) (fr : Option Bits) (s : State) : (s.reply op r fr).maxFrameLen = s.maxFrameLen := rfl

/-! ### discardFrame -/

@[simp] theorem discardFrame_cmd (s : State) : (s.discardFrame).cmd = s.cmd := rfl
@[simp] theorem discardFrame_framebuf (s : State) : (s.discardFrame).framebuf = none := rfl
@[simp] theorem discardFrame_tx (s : State) : (s.discardFrame).tx = s.tx := rfl
@[simp] theorem discardFrame_result (s : State) : (s.discardFrame).result = s.result := rfl
@[simp] theorem discardFrame_carrier (s : State) : (s.discardFrame).carrier = s.carrier := rfl
@[simp] theorem discardFrame_requester (s : State) : (s.discardFrame).requester = s.requester := rfl
@[simp] theorem discardFrame_trace (s : State) : (s.discardFrame).trace = s.trace := rfl
@[simp] theorem discardFrame_history (s : State) : (s.discardFrame).history = s.history := rfl
@[simp] theorem discardFrame_replies (s : State) : (s.discardFrame).replies = s.replies := rfl
@[simp] theorem discardFrame_overlap (s : State) : (s.discardFrame).overlap = s.overlap := rfl
@[simp] theorem discardFrame_inbox (s : State) : (s.discardFrame).inbox = s.inbox := rfl
@[simp] theorem discardFrame_answers (s : State) : (s.discardFrame).answers = s.answers := rfl
@[simp] theorem discardFrame_draws (s : State) : (s.discardFrame).draws = s.draws := rfl
@[simp] theorem discardFrame_maxFrameLen (s : State) : (s.discardFrame).maxFrameLen = s.maxFrameLen := rfl

/-! ### finish -/

@[simp] theorem finish_cmd (x : Tx) (s : State) : (s.finish x).cmd = s.cmd := rfl
@[simp] theorem finish_framebuf (x : Tx) (s : State) : (s.finish x).framebuf = s.framebuf := rfl
@[simp] theorem finish_tx (x : Tx) (s : State) : (s.finish x).tx = x := rfl
@[simp] theorem finish_result (x : Tx) (s : State) : (s.finish x).result = s.result := rfl
@[simp] theorem finish_carrier (x : Tx) (s : State) : (s.finish x).carrier = s.carrier := rfl
@[simp] theorem finish_requester (x : Tx) (s : State) : (s.finish x).requester = none := rfl
@[simp] theorem finish_trace (x : Tx) (s : State) : (s.finish x).trace = s.trace := rfl
@[simp] theorem finish_history (x : Tx) (s : State) : (s.finish x).history = s.history := rfl
@[simp] theorem finish_replies (x : Tx) (s : State) : (s.finish x).replies = s.replies := rfl
@[simp] theorem finish_overlap (x : Tx) (s : State) : (s.finish x).overlap = s.overlap := rfl
@[simp] theorem finish_inbox (x : Tx) (s : State) : (s.finish x).inbox = s.inbox := rfl
@[simp] theorem finish_answers (x : Tx) (s : State) : (s.finish x).answers = s.answers := rfl
@[simp] theorem finish_draws (x : Tx) (s : State) : (s.finish x).draws = s.draws := rfl
@[simp] theorem finish_maxFrameLen (x : Tx) (s : State) : (s.finish x).maxFrameLen = s.maxFrameLen := rfl

/-! ### complete -/

@[simp] theorem complete_cmd (s : State) : (s.complete).cmd = s.cmd := rfl
@[simp] theorem complete_framebuf (s : State) : (s.complete).framebuf = none := rfl
@[simp] theorem complete_tx (s : State) : (s.complete).tx = .done := rfl
@[simp] theorem complete_result (s : State) : (s.complete).result = .ok := rfl
@[simp] theorem complete_carrier (s : State) : (s.complete).carrier = s.carrier := rfl
@[simp] theorem complete_requester (s : State) : (s.complete).requester = none := rfl
@[simp] theorem complete_trace (s : State) : (s.complete).trace = s.trace := rfl
@[simp] theorem complete_history (s : State) : (s.complete).history = s.history := rfl
@[simp] theorem complete_replies (s : State) : (s.complete).replies = s.replies ++ (s.requester.map fun o => ⟨o, .ok, none⟩).toList := rfl
@[simp] theorem complete_overlap (s : State) : (s.complete).overlap = s.overlap := rfl
@[simp] theorem complete_inbox (s : State) : (s.complete).inbox = s.inbox := rfl
@[simp] theorem complete_answers (s : State) : (s.complete).answers = s.answers := rfl
@[simp] theorem complete_draws (s : State) : (s.complete).draws = s.draws := rfl
@[simp] theorem complete_maxFrameLen (s : State) : (s.complete).maxFrameLen = s.maxFrameLen := rfl

/-! ### snapshot -/

@[simp] theorem snapshot_cmd (c : Command) (s : State) : (s.snapshot c).cmd = some c := rfl
@[simp] theorem snapshot_framebuf (c : Command) (s : State) : (s.snapshot c).framebuf = s.framebuf := rfl
@[simp] theorem snapshot_tx (c : Command) (s : State) : (s.snapshot c).tx = s.tx := rfl
@[simp] theorem snapshot_result (c : Command) (s : State) : (s.snapshot c).result = s.result := rfl
@[simp] theorem snapshot_carrier (c : Command) (s : State) : (s.snapshot c).carrier = s.carrier := rfl
@[simp] theorem snapshot_requester (c : Command) (s : State) : (s.snapshot c).requester = s.requester := rfl
@[simp] theorem snapshot_trace (c : Command) (s : State) : (s.snapshot c).trace = s.trace := rfl
@[simp] theorem snapshot_history (c : Command) (s : State) : (s.snapshot c).history = s.history := rfl
@[simp] theorem snapshot_replies (c : Command) (s : State) : (s.snapshot c).replies = s.replies := rfl
@[simp] theorem snapshot_overlap (c : Command) (s : State) : (s.snapshot c).overlap = s.overlap := rfl
@[simp] theorem snapshot_inbox (c : Command) (s : State) : (s.snapshot c).inbox = s.inbox := rfl
@[simp] theorem snapshot_answers (c : Command) (s : State) : (s.snapshot c).answers = s.answers := rfl
@[simp] theorem snapshot_draws (c : Command) (s : State) : (s.snapshot c).draws = s.draws := rfl
@[simp] theorem snapshot_maxFrameLen (c : Command) (s : State) : (s.snapshot c).maxFrameLen = s.maxFrameLen := rfl

/-! ### latch -/

@[simp] theorem latch_cmd (f : List Symbol) (s : State) : (s.latch f).cmd = s.cmd := rfl
@[simp] theorem latch_framebuf (f : List Symbol) (s : State) : (s.latch f).framebuf = some f := rfl
@[simp] theorem latch_tx (f : List Symbol) (s : State) : (s.latch f).tx = s.tx := rfl
@[simp] theorem latch_result (f : List Symbol) (s : State) : (s.latch f).result = s.result := rfl
@[simp] theorem latch_carrier (f : List Symbol) (s : State) : (s.latch f).carrier = s.carrier := rfl
@[simp] theorem latch_requester (f : List Symbol) (s : State) : (s.latch f).requester = s.requester := rfl
@[simp] theorem latch_trace (f : List Symbol) (s : State) : (s.latch f).trace = [] := rfl
@[simp] theorem latch_history (f : List Symbol) (s : State) : (s.latch f).history = s.history ++ s.trace := rfl
@[simp] theorem latch_replies (f : List Symbol) (s : State) : (s.latch f).replies = s.replies := rfl
@[simp] theorem latch_overlap (f : List Symbol) (s : State) : (s.latch f).overlap = s.overlap := rfl
@[simp] theorem latch_inbox (f : List Symbol) (s : State) : (s.latch f).inbox = s.inbox := rfl
@[simp] theorem latch_answers (f : List Symbol) (s : State) : (s.latch f).answers = s.answers := rfl
@[simp] theorem latch_draws (f : List Symbol) (s : State) : (s.latch f).draws = s.draws := rfl
@[simp] theorem latch_maxFrameLen (f : List Symbol) (s : State) : (s.latch f).maxFrameLen = s.maxFrameLen := rfl

/-! ### start -/

@[simp] theorem start_cmd (op : Op) (s : State) : (s.start op).cmd = s.cmd := rfl
@[simp] theorem start_framebuf (op : Op) (s : State) : (s.start op).framebuf = s.framebuf := rfl
@[simp] theorem start_tx (op : Op) (s : State) : (s.start op).tx = .run 0 := rfl
@[simp] theorem start_result (op : Op) (s : State) : (s.start op).result = s.result := rfl
@[simp] theorem start_carrier (op : Op) (s : State) : (s.start op).carrier = s.carrier := rfl
@[simp] theorem start_requester (op : Op) (s : State) : (s.start op).requester = some op := rfl
@[simp] theorem start_trace (op : Op) (s : State) : (s.start op).trace = s.trace := rfl
@[simp] theorem start_history (op : Op) (s : State) : (s.start op).history = s.history := rfl
@[simp] theorem start_replies (op : Op) (s : State) : (s.start op).replies = s.replies := rfl
@[simp] theorem start_overlap (op : Op) (s : State) : (s.start op).overlap = s.overlap := rfl
@[simp] theorem start_inbox (op : Op) (s : State) : (s.start op).inbox = s.inbox := rfl
@[simp] theorem start_answers (op : Op) (s : State) : (s.start op).answers = s.answers := rfl
@[simp] theorem start_draws (op : Op) (s : State) : (s.start op).draws = s.draws := rfl
@[simp] theorem start_maxFrameLen (op : Op) (s : State) : (s.start op).maxFrameLen = s.maxFrameLen := rfl

/-! ### refuseOverlap -/

@[simp] theorem refuseOverlap_cmd (s : State) : (s.refuseOverlap).cmd = s.cmd := rfl
@[simp] theorem refuseOverlap_framebuf (s : State) : (s.refuseOverlap).framebuf = s.framebuf := rfl
@[simp] theorem refuseOverlap_tx (s : State) : (s.refuseOverlap).tx = s.tx := rfl
@[simp] theorem refuseOverlap_result (s : State) : (s.refuseOverlap).result = s.result := rfl
@[simp] theorem refuseOverlap_carrier (s : State) : (s.refuseOverlap).carrier = s.carrier := rfl
@[simp] theorem refuseOverlap_requester (s : State) : (s.refuseOverlap).requester = s.requester := rfl
@[simp] theorem refuseOverlap_trace (s : State) : (s.refuseOverlap).trace = s.trace := rfl
@[simp] theorem refuseOverlap_history (s : State) : (s.refuseOverlap).history = s.history := rfl
@[simp] theorem refuseOverlap_replies (s : State) : (s.refuseOverlap).replies = s.replies := rfl
@[simp] theorem refuseOverlap_overlap (s : State) : (s.refuseOverlap).overlap = true := rfl
@[simp] theorem refuseOverlap_inbox (s : State) : (s.refuseOverlap).inbox = s.inbox := rfl
@[simp] theorem refuseOverlap_answers (s : State) : (s.refuseOverlap).answers = s.answers := rfl
@[simp] theorem refuseOverlap_draws (s : State) : (s.refuseOverlap).draws = s.draws := rfl
@[simp] theorem refuseOverlap_maxFrameLen (s : State) : (s.refuseOverlap).maxFrameLen = s.maxFrameLen := rfl

/-! ### popInput -/

@[simp] theorem popInput_cmd (s : State) : (s.popInput).cmd = s.cmd := rfl
@[simp] theorem popInput_framebuf (s : State) : (s.popInput).framebuf = s.framebuf := rfl
@[simp] theorem popInput_tx (s : State) : (s.popInput).tx = s.tx := rfl
@[simp] theorem popInput_result (s : State) : (s.popInput).result = s.result := rfl
@[simp] theorem popInput_carrier (s : State) : (s.popInput).carrier = s.carrier := rfl
@[simp] theorem popInput_requester (s : State) : (s.popInput).requester = s.requester := rfl
@[simp] theorem popInput_trace (s : State) : (s.popInput).trace = s.trace := rfl
@[simp] theorem popInput_history (s : State) : (s.popInput).history = s.history := rfl
@[simp] theorem popInput_replies (s : State) : (s.popInput).replies = s.replies := rfl
@[simp] theorem popInput_overlap (s : State) : (s.popInput).overlap = s.overlap := rfl
@[simp] theorem popInput_inbox (s : State) : (s.popInput).inbox = s.inbox.tail := rfl
@[simp] theorem popInput_answers (s : State) : (s.popInput).answers = s.answers := rfl
@[simp] theorem popInput_draws (s : State) : (s.popInput).draws = s.draws := rfl
@[simp] theorem popInput_maxFrameLen (s : State) : (s.popInput).maxFrameLen = s.maxFrameLen := rfl

/-! ### platformReset -/

@[simp] theorem platformReset_cmd (s : State) : (s.platformReset).cmd = none := rfl
@[simp] theorem platformReset_framebuf (s : State) : (s.platformReset).framebuf = none := rfl
@[simp] theorem platformReset_tx (s : State) : (s.platformReset).tx = .idle := rfl
@[simp] theorem platformReset_result (s : State) : (s.platformReset).result = .none := rfl
@[simp] theorem platformReset_carrier (s : State) : (s.platformReset).carrier = .off := rfl
@[simp] theorem platformReset_requester (s : State) : (s.platformReset).requester = none := rfl
@[simp] theorem platformReset_trace (s : State) : (s.platformReset).trace = [] := rfl
@[simp] theorem platformReset_history (s : State) : (s.platformReset).history = s.history ++ s.trace := rfl
@[simp] theorem platformReset_replies (s : State) : (s.platformReset).replies = s.replies := rfl
@[simp] theorem platformReset_overlap (s : State) : (s.platformReset).overlap = s.overlap := rfl
@[simp] theorem platformReset_inbox (s : State) : (s.platformReset).inbox = s.inbox := rfl
@[simp] theorem platformReset_answers (s : State) : (s.platformReset).answers = s.answers := rfl
@[simp] theorem platformReset_draws (s : State) : (s.platformReset).draws = s.draws := rfl
@[simp] theorem platformReset_maxFrameLen (s : State) : (s.platformReset).maxFrameLen = s.maxFrameLen := rfl

/-! ### raise .encoderInvalidArgument -/

@[simp] theorem raise_encoder_cmd (op : Option Op) (s : State) :
    (s.raise .encoderInvalidArgument op).cmd = s.cmd := rfl
@[simp] theorem raise_encoder_framebuf (op : Option Op) (s : State) :
    (s.raise .encoderInvalidArgument op).framebuf = s.framebuf := rfl
@[simp] theorem raise_encoder_tx (op : Option Op) (s : State) :
    (s.raise .encoderInvalidArgument op).tx = s.tx := rfl
@[simp] theorem raise_encoder_result (op : Option Op) (s : State) :
    (s.raise .encoderInvalidArgument op).result = .invalidArgument := rfl
@[simp] theorem raise_encoder_carrier (op : Option Op) (s : State) :
    (s.raise .encoderInvalidArgument op).carrier = s.carrier := rfl
@[simp] theorem raise_encoder_requester (op : Option Op) (s : State) :
    (s.raise .encoderInvalidArgument op).requester = s.requester := rfl
@[simp] theorem raise_encoder_trace (op : Option Op) (s : State) :
    (s.raise .encoderInvalidArgument op).trace = s.trace := rfl
@[simp] theorem raise_encoder_history (op : Option Op) (s : State) :
    (s.raise .encoderInvalidArgument op).history = s.history := rfl
@[simp] theorem raise_encoder_replies (op : Option Op) (s : State) :
    (s.raise .encoderInvalidArgument op).replies = s.replies ++ (op.map fun o => ⟨o, .invalidArgument, none⟩).toList := rfl
@[simp] theorem raise_encoder_overlap (op : Option Op) (s : State) :
    (s.raise .encoderInvalidArgument op).overlap = s.overlap := rfl
@[simp] theorem raise_encoder_inbox (op : Option Op) (s : State) :
    (s.raise .encoderInvalidArgument op).inbox = s.inbox := rfl
@[simp] theorem raise_encoder_answers (op : Option Op) (s : State) :
    (s.raise .encoderInvalidArgument op).answers = s.answers := rfl
@[simp] theorem raise_encoder_draws (op : Option Op) (s : State) :
    (s.raise .encoderInvalidArgument op).draws = s.draws := rfl
@[simp] theorem raise_encoder_maxFrameLen (op : Option Op) (s : State) :
    (s.raise .encoderInvalidArgument op).maxFrameLen = s.maxFrameLen := rfl

/-! ### raise .transmitterInvalidArgument -/

@[simp] theorem raise_transmitter_cmd (op : Option Op) (s : State) :
    (s.raise .transmitterInvalidArgument op).cmd = s.cmd := rfl
@[simp] theorem raise_transmitter_framebuf (op : Option Op) (s : State) :
    (s.raise .transmitterInvalidArgument op).framebuf = s.framebuf := rfl
@[simp] theorem raise_transmitter_tx (op : Option Op) (s : State) :
    (s.raise .transmitterInvalidArgument op).tx = .aborted := rfl
@[simp] theorem raise_transmitter_result (op : Option Op) (s : State) :
    (s.raise .transmitterInvalidArgument op).result = .invalidArgument := rfl
@[simp] theorem raise_transmitter_carrier (op : Option Op) (s : State) :
    (s.raise .transmitterInvalidArgument op).carrier = s.carrier := rfl
@[simp] theorem raise_transmitter_requester (op : Option Op) (s : State) :
    (s.raise .transmitterInvalidArgument op).requester = none := rfl
@[simp] theorem raise_transmitter_trace (op : Option Op) (s : State) :
    (s.raise .transmitterInvalidArgument op).trace = s.trace := rfl
@[simp] theorem raise_transmitter_history (op : Option Op) (s : State) :
    (s.raise .transmitterInvalidArgument op).history = s.history := rfl
@[simp] theorem raise_transmitter_replies (op : Option Op) (s : State) :
    (s.raise .transmitterInvalidArgument op).replies = s.replies ++ (op.map fun o => ⟨o, .invalidArgument, none⟩).toList := rfl
@[simp] theorem raise_transmitter_overlap (op : Option Op) (s : State) :
    (s.raise .transmitterInvalidArgument op).overlap = s.overlap := rfl
@[simp] theorem raise_transmitter_inbox (op : Option Op) (s : State) :
    (s.raise .transmitterInvalidArgument op).inbox = s.inbox := rfl
@[simp] theorem raise_transmitter_answers (op : Option Op) (s : State) :
    (s.raise .transmitterInvalidArgument op).answers = s.answers := rfl
@[simp] theorem raise_transmitter_draws (op : Option Op) (s : State) :
    (s.raise .transmitterInvalidArgument op).draws = s.draws := rfl
@[simp] theorem raise_transmitter_maxFrameLen (op : Option Op) (s : State) :
    (s.raise .transmitterInvalidArgument op).maxFrameLen = s.maxFrameLen := rfl

/-! ### raise .hardwareFailure -/

@[simp] theorem raise_hardware_cmd (op : Option Op) (s : State) :
    (s.raise .hardwareFailure op).cmd = s.cmd := rfl
@[simp] theorem raise_hardware_framebuf (op : Option Op) (s : State) :
    (s.raise .hardwareFailure op).framebuf = none := rfl
@[simp] theorem raise_hardware_tx (op : Option Op) (s : State) :
    (s.raise .hardwareFailure op).tx = .aborted := rfl
@[simp] theorem raise_hardware_result (op : Option Op) (s : State) :
    (s.raise .hardwareFailure op).result = .hardwareFailure := rfl
@[simp] theorem raise_hardware_carrier (op : Option Op) (s : State) :
    (s.raise .hardwareFailure op).carrier = s.carrier := rfl
@[simp] theorem raise_hardware_requester (op : Option Op) (s : State) :
    (s.raise .hardwareFailure op).requester = none := rfl
@[simp] theorem raise_hardware_trace (op : Option Op) (s : State) :
    (s.raise .hardwareFailure op).trace = s.trace := rfl
@[simp] theorem raise_hardware_history (op : Option Op) (s : State) :
    (s.raise .hardwareFailure op).history = s.history := rfl
@[simp] theorem raise_hardware_replies (op : Option Op) (s : State) :
    (s.raise .hardwareFailure op).replies = s.replies ++ (op.map fun o => ⟨o, .hardwareFailure, none⟩).toList := rfl
@[simp] theorem raise_hardware_overlap (op : Option Op) (s : State) :
    (s.raise .hardwareFailure op).overlap = s.overlap := rfl
@[simp] theorem raise_hardware_inbox (op : Option Op) (s : State) :
    (s.raise .hardwareFailure op).inbox = s.inbox := rfl
@[simp] theorem raise_hardware_answers (op : Option Op) (s : State) :
    (s.raise .hardwareFailure op).answers = s.answers := rfl
@[simp] theorem raise_hardware_draws (op : Option Op) (s : State) :
    (s.raise .hardwareFailure op).draws = s.draws := rfl
@[simp] theorem raise_hardware_maxFrameLen (op : Option Op) (s : State) :
    (s.raise .hardwareFailure op).maxFrameLen = s.maxFrameLen := rfl

end Sys2Proof.Laws
end

