-- ==== Sys2Proof/Laws/Ops.lean ====
section
/-! SUPPORT. One lemma per shared operation that says once what it does; the provers cite these instead of unfolding. -/

namespace Sys2Proof.Laws

open Sys2Proof.Machine

/-! ### Reading the state -/

theorem busy_eq_true_iff (s : State) : s.busy = true ↔ ∃ k, s.tx = .run k := by
  cases h : s.tx <;> simp [State.busy, h]

theorem busy_eq_false_iff (s : State) : s.busy = false ↔ s.tx = .idle ∨ s.tx = .done ∨ s.tx = .aborted := by
  cases h : s.tx <;> simp [State.busy, h]

theorem busy_congr {s t : State} (h : s.tx = t.tx) : s.busy = t.busy := by simp [State.busy, h]

theorem memRead_of_run {s : State} {k : Nat} {f : List Symbol} (ht : s.tx = .run k) (hf : s.framebuf = some f)
    (i : Nat) : s.memRead i = f[i]? := by simp [State.memRead, ht, hf]

theorem memRead_of_ready {s : State} (h : s.busy = false) (i : Nat) : s.memRead i = none := by
  rcases (busy_eq_false_iff s).1 h with h | h | h <;> simp [State.memRead, h]

theorem answer_cons {s : State} {a : Answer} {rest : List Answer} (h : s.answers = a :: rest) : s.answer = a := by
  simp [State.answer, h]

/-- A frame fits where its length is within MAX_FRAME_LEN. -/
theorem frameFits_iff (s : State) (f : List Symbol) :
    s.frameFits f = true ↔ ∀ n, s.maxFrameLen = some n → f.length ≤ n := by
  unfold State.frameFits
  cases h : s.maxFrameLen <;> simp

/-- Whether a frame fits depends on nothing but MAX_FRAME_LEN. -/
theorem frameFits_congr {s t : State} (h : s.maxFrameLen = t.maxFrameLen) (f : List Symbol) :
    s.frameFits f = t.frameFits f := by simp [State.frameFits, h]

/-- What the sequencer decodes was fetched. -/
theorem fetchInstr_eq_ok_iff (s : State) (i : Instr) :
    s.fetchInstr = .ok i ↔ ∃ c, s.fetch = some c ∧ decode c = .ok i := by
  unfold State.fetchInstr
  rcases s.fetch with _ | c
  · simp
  · cases hd : decode c <;> simp [hd]

/-! ### Requests -/

/-- A frame presented to the transmitter is dropped with a mark when it is busy; when it is ready, the frame is accepted if it is
within MAX_FRAME_LEN and refused if not. -/
theorem requestTransmit_cases (op : Op) (f : List Symbol) (s : State) :
    (s.busy = true ∧ s.requestTransmit op f = .next s.refuseOverlap) ∨
      (s.busy = false ∧ s.frameFits f = true ∧ s.requestTransmit op f = .next (s.accept op f)) ∨
      (s.busy = false ∧ s.frameFits f = false ∧ s.requestTransmit op f = .refused .frameTooLong) := by
  unfold State.requestTransmit
  cases s.busy <;> cases s.frameFits f <;> simp

theorem requestTransmit_of_busy {s : State} (hb : s.busy = true) (op : Op) (f : List Symbol) :
    s.requestTransmit op f = .next s.refuseOverlap := by simp [State.requestTransmit, hb]

theorem requestTransmit_of_ready {s : State} {f : List Symbol} (hb : s.busy = false) (hf : s.frameFits f = true) (op : Op) :
    s.requestTransmit op f = .next (s.accept op f) := by simp [State.requestTransmit, hb, hf]

theorem requestTransmit_of_too_long {s : State} {f : List Symbol} (hb : s.busy = false) (hf : s.frameFits f = false) (op : Op) :
    s.requestTransmit op f = .refused .frameTooLong := by simp [State.requestTransmit, hb, hf]

/-- An accepted frame fails validation or starts at Run(0). -/
theorem accept_cases (op : Op) (f : List Symbol) (s : State) :
    (hasOther f = true ∧ s.accept op f = (s.latch f).raise .transmitterInvalidArgument (some op)) ∨
      (hasOther f = false ∧ s.accept op f = (s.latch f).start op) := by
  cases h : hasOther f <;> simp [State.accept, h]

/-! ### The sequencer -/

/-- After a whole half-interval the transmission is complete or stands at the next one. -/
theorem advance_cases (k : Nat) (s : State) :
    (s.len.map perRequest = some (k + 1) ∧ s.advance k = s.complete) ∨
      (s.len.map perRequest ≠ some (k + 1) ∧ s.advance k = { s with tx := .run (k + 1) }) := by
  by_cases h : s.len.map perRequest = some (k + 1) <;> simp [State.advance, h]

/-- A half-interval is emitted whole, or its call failed. -/
theorem emitHalf_cases (h : Half) (k : Nat) (s : State) :
    (s.answer = .ok ∧ s.emitHalf h k = ((s.setCarrier h.level).delay h.microseconds).advance k) ∨
      (s.answer = .fail ∧ s.emitHalf h k = (s.setCarrier h.level).raise .hardwareFailure s.requester) := by
  cases ha : s.answer <;> simp [State.emitHalf, ha]

/-- A pulse element emits a half-interval where the sequencer selects it, and is refused elsewhere. -/
theorem runElement_cases (e : Element) (s : State) :
    (∃ k, s.selected = some (e, k) ∧ s.runElement e = .next (s.emitHalf (halfOfElement e (halfAt k)) k)) ∨
      ((∀ k, s.selected ≠ some (e, k)) ∧ s.runElement e = .refused (.elementNotSelected e)) := by
  unfold State.runElement
  rcases hs : s.selected with _ | ⟨e', k⟩
  · simp
  · by_cases he : e' = e
    · subst he; simp
    · simp [he]

/-- Where the sequencer selects an element: in Run(K), the element of half-interval K of the latched frame. -/
theorem selected_eq_some_iff (s : State) (e : Element) (k : Nat) :
    s.selected = some (e, k) ↔ s.tx = .run k ∧ ∃ f, s.framebuf = some f ∧ elementAt f k = some e := by
  unfold State.selected
  rcases ht : s.tx with _ | j | _ | _ <;> rcases hf : s.framebuf with _ | f <;> simp
  constructor
  · rintro ⟨h, rfl⟩; exact ⟨rfl, h⟩
  · rintro ⟨rfl, h⟩; exact ⟨h, rfl⟩

/-! ### The encoder -/

/-- ENCODE always ends, with a frame or with InvalidArgument. -/
theorem execEncode_cases (mode : ModeArg) (temp fan : Int) (s : State) :
    (∃ fr, encodeCommand ⟨mode, temp, fan⟩ = some fr ∧
      execEncode mode temp fan s = .next ((s.snapshot ⟨mode, temp, fan⟩).reply (some .encode) .ok (some fr))) ∨
    (encodeCommand ⟨mode, temp, fan⟩ = none ∧
      execEncode mode temp fan s =
        .next ((s.snapshot ⟨mode, temp, fan⟩).raise .encoderInvalidArgument (some .encode))) := by
  cases h : encodeCommand ⟨mode, temp, fan⟩ <;> simp [execEncode, h]

/-- SEND: dropped while busy, failed by the encoder, or, with the encoder's frame, accepted or refused as too long. -/
theorem execSend_cases (mode : ModeArg) (temp fan : Int) (s : State) :
    (s.busy = true ∧ execSend mode temp fan s = .next s.refuseOverlap) ∨
    (s.busy = false ∧ encodeCommand ⟨mode, temp, fan⟩ = none ∧
      execSend mode temp fan s =
        .next ((s.snapshot ⟨mode, temp, fan⟩).raise .encoderInvalidArgument (some .send))) ∨
    (s.busy = false ∧ ∃ fr, encodeCommand ⟨mode, temp, fan⟩ = some fr ∧ s.frameFits (symbolsOfBits fr) = true ∧
      execSend mode temp fan s = .next ((s.snapshot ⟨mode, temp, fan⟩).accept .send (symbolsOfBits fr))) ∨
    (s.busy = false ∧ ∃ fr, encodeCommand ⟨mode, temp, fan⟩ = some fr ∧ s.frameFits (symbolsOfBits fr) = false ∧
      execSend mode temp fan s = .refused .frameTooLong) := by
  cases hs : s.busy
  · cases h : encodeCommand ⟨mode, temp, fan⟩ with
    | none => simp [execSend, hs, h]
    | some fr =>
      rcases requestTransmit_cases .send (symbolsOfBits fr) (s.snapshot ⟨mode, temp, fan⟩) with
        ⟨hb, -⟩ | ⟨-, hf, hr⟩ | ⟨-, hf, hr⟩
      · exact absurd (hb.symm.trans hs) (by decide)
      · exact .inr (.inr (.inl ⟨rfl, fr, rfl, hf, by simp [execSend, hs, h, hr]⟩))
      · exact .inr (.inr (.inr ⟨rfl, fr, rfl, hf, by simp [execSend, hs, h, hr]⟩))
  · simp [execSend, hs]

/-- Bits are never OTHER symbols (spec/30_encoding.md R53). -/
@[simp] theorem hasOther_symbolsOfBits (s : Bits) : hasOther (symbolsOfBits s) = false := by
  induction s with
  | nil => rfl
  | cons b s ih => cases b <;> simp [hasOther, symbolsOfBits, symbolOfBit, isOther]

/-! ### Bit groups -/

@[simp] theorem be_length (n v : Nat) : (be n v).length = n := by
  induction n with
  | zero => rfl
  | succ n ih => simp [be, ih]

@[simp] theorem bitsVal_be (n v : Nat) : bitsVal (be n v) = v % 2 ^ n := by
  induction n with
  | zero => simp [be, bitsVal, Nat.mod_one]
  | succ n ih =>
    simp only [be, bitsVal, be_length, ih]
    rw [Nat.mod_pow_succ, Nat.testBit_eq_decide_div_mod_eq]
    rcases Nat.mod_two_eq_zero_or_one (v / 2 ^ n) with h | h <;> simp [h, Nat.add_comm]

end Sys2Proof.Laws
end

