-- ==== Sys2Proof/Laws/Frame.lean ====
section
/-! SUPPORT. The segments of an assembled frame (spec/30_encoding.md R45): where each field stands and what the re-parse of R47
reads there. -/

namespace Sys2Proof.Laws

open Sys2Proof.Machine

section Segments

variable (t f p m c k : Nat)

/-- The frame written out bit by bit: the pattern string of R45. -/
theorem assembleFrame_bits : assembleFrame t f p m c k =
    [true, true, true, true, false, false, true, false, false, false, false, false, true, true, false, true,
     false, false, false, false, false, false, true, true, true, true, true, true, true, true, false, false,
     false, false, false, false, false, false, false, true,
     t.testBit 3, t.testBit 2, t.testBit 1, t.testBit 0, false, false, false, false,
     f.testBit 3, f.testBit 2, f.testBit 1, f.testBit 0, false, p.testBit 0, m.testBit 1, m.testBit 0,
     false, false, false, false, false, false, false, false,
     c.testBit 3, c.testBit 2, c.testBit 1, c.testBit 0, false, p.testBit 0, k.testBit 1, k.testBit 0] := by
  simp [assembleFrame, be, zeroBits, List.replicate, Config.vendorHeader]

@[simp] theorem assembleFrame_length : (assembleFrame t f p m c k).length = 72 := by
  rw [assembleFrame_bits]; rfl

theorem assembleFrame_header : (assembleFrame t f p m c k).take 40 = Config.vendorHeader := by
  rw [assembleFrame_bits]; rfl

theorem assembleFrame_temperature : ((assembleFrame t f p m c k).drop 40).take 4 = be 4 t := by
  rw [assembleFrame_bits]; rfl

theorem assembleFrame_fan : ((assembleFrame t f p m c k).drop 48).take 4 = be 4 f := by
  rw [assembleFrame_bits]; rfl

theorem assembleFrame_power_mode : ((assembleFrame t f p m c k).drop 53).take 3 = be 1 p ++ be 2 m := by
  rw [assembleFrame_bits]; rfl

theorem assembleFrame_mode : ((assembleFrame t f p m c k).drop 54).take 2 = be 2 m := by
  rw [assembleFrame_bits]; rfl

theorem assembleFrame_checksum1 : ((assembleFrame t f p m c k).drop 64).take 4 = be 4 c := by
  rw [assembleFrame_bits]; rfl

theorem assembleFrame_checksum2 : ((assembleFrame t f p m c k).drop 70).take 2 = be 2 k := by
  rw [assembleFrame_bits]; rfl

theorem assembleFrame_power_first : (assembleFrame t f p m c k)[53]? = some (p.testBit 0) := by
  rw [assembleFrame_bits]; rfl

theorem assembleFrame_power_repeat : (assembleFrame t f p m c k)[69]? = some (p.testBit 0) := by
  rw [assembleFrame_bits]; rfl

theorem assembleFrame_padding : framePadding (assembleFrame t f p m c k) = zeroBits 14 := by
  rw [assembleFrame_bits]; rfl

/-- The re-parse of an assembled frame reads the bit groups that were put in. -/
theorem parseFrame_assembleFrame :
    parseFrame (assembleFrame t f p m c k) =
      ⟨bitsVal (be 4 t), bitsVal (be 4 f), bitsVal (be 1 p), bitsVal (be 2 m), bitsVal (be 4 c), bitsVal (be 1 p),
        bitsVal (be 2 k)⟩ := by
  rw [assembleFrame_bits]; rfl

end Segments

/-! ### The codes are in range -/

theorem temperatureCode_le {t : Int} (h : t ≤ 30) : temperatureCode t ≤ 13 := by
  unfold temperatureCode Config.tempMin; omega

theorem fanCode_le {f : Int} (h : f ≤ 100) : fanCode f ≤ 12 := by
  unfold fanCode Config.fanStep; split <;> omega

theorem fanCode_even (f : Int) : fanCode f % 2 = 0 := by
  unfold fanCode; split <;> omega

theorem bitsVal_be_of_lt {n v : Nat} (h : v < 2 ^ n) : bitsVal (be n v) = v := by
  rw [bitsVal_be, Nat.mod_eq_of_lt h]

end Sys2Proof.Laws
end

