-- ==== Sys2Proof/Laws/Encoder.lean ====
section
/-! SUPPORT. The encoder's validation said once (spec/40_encoder.md R66): a valid command has its frame, an out-of-range command has
none. -/

namespace Sys2Proof.Laws

open Sys2Proof.Machine Sys2Proof.Safety

theorem tempInRange_iff (t : Int) : tempInRange t = true ↔ 17 ≤ t ∧ t ≤ 30 := by
  simp only [tempInRange, Bool.and_eq_true, decide_eq_true_eq]; exact Iff.rfl

theorem fanInRange_iff (f : Int) : fanInRange f = true ↔ 0 ≤ f ∧ f ≤ 100 := by
  simp only [fanInRange, Bool.and_eq_true, decide_eq_true_eq]; exact Iff.rfl

/-- A number outside 0..3 codes no mode. -/
theorem modeOf_other_of_outside {n : Int} (h : n < 0 ∨ 3 < n) : modeOf (.other n) = none := by
  simp only [modeOf, ModeArg.ofCode]
  rw [if_neg (by omega), if_neg (by omega), if_neg (by omega), if_neg (by omega)]

/-- A valid command has the frame of its mode, temperature and fan speed. -/
theorem encodeCommand_of_valid {mode : ModeArg} {m : Mode} {temp fan : Int}
    (h : validCommand mode m temp fan) : encodeCommand ⟨mode, temp, fan⟩ = some (encodedFrame m temp fan) := by
  obtain ⟨hm, h1, h2, h3, h4⟩ := h
  have hmode : modeOf mode = some m := by
    rcases hm with rfl | ⟨n, rfl, hn⟩
    · rfl
    · simp [modeOf, hn]
  simp [encodeCommand, validMode, (tempInRange_iff temp).2 ⟨h1, h2⟩, (fanInRange_iff fan).2 ⟨h3, h4⟩, hmode]

/-- An out-of-range command has no frame. -/
theorem encodeCommand_of_invalid {mode : ModeArg} {temp fan : Int} (h : invalidCommand mode temp fan) :
    encodeCommand ⟨mode, temp, fan⟩ = none := by
  rcases h with ⟨n, rfl, hn⟩ | h
  · simp only [encodeCommand, validMode, modeOf_other_of_outside hn, ite_self]
  · have hr : ¬ (tempInRange temp = true ∧ fanInRange fan = true) := by
      rw [tempInRange_iff, fanInRange_iff]; omega
    simp [encodeCommand, validMode, hr]

end Sys2Proof.Laws
end

