-- ==== Sys2Proof/Laws/PerInstr.lean ====
section
/-! SUPPORT. Statements made instruction by instruction: the encoded object of an instruction is of the format its row of
spec/opcode_table.json names, with the row's fixed bits. -/

namespace Sys2Proof.Laws.EncodeFormat

/-- The row of an instruction admits a code: a request with the row's selector, a frame of 72 bits that starts with the vendor
header, the row's symbol, or the row's phase. -/
def RowAdmits : Instr → Code → Prop
  | .encode _ _ _, c => ∃ r, c = .request r ∧ r.op = 0#2
  | .transmit _, c => ∃ r, c = .request r ∧ r.op = 1#2
  | .send _ _ _, c => ∃ r, c = .request r ∧ r.op = 2#2
  | .frame72 _ _ _ _ _ _, c => ∃ s, c = .frame s ∧ s.length = 72 ∧ s.take 40 = Config.vendorHeader
  | .hdr, c => c = .implicit .sendingHeader
  | .bit0, c => c = .symbol .zero
  | .bit1, c => c = .symbol .one
  | .endMarker, c => c = .implicit .sendingEnd

def Statement (i : Instr) : Prop := RowAdmits i (Sys2Proof.encode i)

theorem encode (mode : ModeArg) (temp fan : Int) : Statement (.encode mode temp fan) := ⟨_, rfl, rfl⟩

theorem transmit (frame : List Symbol) : Statement (.transmit frame) := ⟨_, rfl, rfl⟩

theorem send (mode : ModeArg) (temp fan : Int) : Statement (.send mode temp fan) := ⟨_, rfl, rfl⟩

theorem frame72 (t f : BitVec 4) (p : BitVec 1) (m : BitVec 2) (c : BitVec 4) (k : BitVec 2) :
    Statement (.frame72 t f p m c k) := ⟨_, rfl, rfl, rfl⟩

theorem hdr : Statement .hdr := rfl

theorem bit0 : Statement .bit0 := rfl

theorem bit1 : Statement .bit1 := rfl

theorem endMarker : Statement .endMarker := rfl

end Sys2Proof.Laws.EncodeFormat
end

