-- ==== Sys2Proof/Laws/Sequencer.lean ====
section
/-! SUPPORT. The sequencer's table said once (spec/10_state.md R16): the phase and the element of each half-interval. -/

namespace Sys2Proof.Laws

open Sys2Proof.Machine

theorem perFrame_eq (len : Nat) : perFrame len = 2 * len + 4 := rfl

theorem perRequest_eq (len : Nat) : perRequest len = 4 * len + 8 := by
  simp only [perRequest, Config.frameRepeats, perFrame]; omega

/-- `J` in the first frame is `K`, in the second `K - PER`. -/
theorem mod_perFrame {len k : Nat} (hk : k < 4 * len + 8) :
    k % (2 * len + 4) = if k < 2 * len + 4 then k else k - (2 * len + 4) := by
  split
  · exact Nat.mod_eq_of_lt ‹_›
  · rw [Nat.mod_eq_sub_mod (by omega), Nat.mod_eq_of_lt (by omega)]

theorem phaseAt_header {len k : Nat} (h : k % (2 * len + 4) < 2) : phaseAt len k = .sendingHeader :=
  if_pos h

theorem phaseAt_bits {len k : Nat} (h : 2 ≤ k % (2 * len + 4)) (h' : k % (2 * len + 4) < 2 * len + 2) :
    phaseAt len k = .sendingBits ((k % (2 * len + 4) - 2) / 2) :=
  (if_neg (Nat.not_lt.2 h)).trans (if_pos h')

theorem phaseAt_end {len k : Nat} (h : 2 * len + 2 ≤ k % (2 * len + 4)) : phaseAt len k = .sendingEnd :=
  (if_neg (Nat.not_lt.2 (Nat.le_trans (Nat.le_add_left 2 _) h))).trans (if_neg (Nat.not_lt.2 h))

/-- The phase of a running sequencer is one of the three sending phases. -/
theorem phaseAt_cases (len k : Nat) :
    (k % (2 * len + 4) < 2 ∧ phaseAt len k = .sendingHeader) ∨
      (2 ≤ k % (2 * len + 4) ∧ k % (2 * len + 4) < 2 * len + 2 ∧
        phaseAt len k = .sendingBits ((k % (2 * len + 4) - 2) / 2)) ∨
      (2 * len + 2 ≤ k % (2 * len + 4) ∧ phaseAt len k = .sendingEnd) := by
  by_cases h : k % (2 * len + 4) < 2
  · exact .inl ⟨h, phaseAt_header h⟩
  · by_cases h' : k % (2 * len + 4) < 2 * len + 2
    · exact .inr (.inl ⟨Nat.not_lt.1 h, h', phaseAt_bits (Nat.not_lt.1 h) h'⟩)
    · exact .inr (.inr ⟨Nat.not_lt.1 h', phaseAt_end (Nat.not_lt.1 h')⟩)

/-- An element is selected only inside the schedule. -/
theorem lt_of_elementAt {f : List Symbol} {k : Nat} {e : Element} (h : elementAt f k = some e) :
    k < 4 * f.length + 8 := by
  unfold elementAt at h
  split at h
  · rw [← perRequest_eq]; assumption
  · cases h

theorem elementAt_header {f : List Symbol} {k : Nat} (hk : k < 4 * f.length + 8)
    (h : k % (2 * f.length + 4) < 2) : elementAt f k = some .hdr := by
  unfold elementAt
  rw [phaseAt_header h, perRequest_eq, if_pos hk]

theorem elementAt_bits {f : List Symbol} {k : Nat} {y : Symbol} (hk : k < 4 * f.length + 8)
    (h : 2 ≤ k % (2 * f.length + 4)) (hy : f[(k % (2 * f.length + 4) - 2) / 2]? = some y) :
    elementAt f k = elementOfSymbol y := by
  obtain ⟨hl, -⟩ := List.getElem?_eq_some_iff.1 hy
  unfold elementAt
  rw [phaseAt_bits h (by omega), perRequest_eq, if_pos hk]
  simp [hy]

theorem elementAt_end {f : List Symbol} {k : Nat} (hk : k < 4 * f.length + 8)
    (h : 2 * f.length + 2 ≤ k % (2 * f.length + 4)) : elementAt f k = some .endMarker := by
  unfold elementAt
  rw [phaseAt_end h, perRequest_eq, if_pos hk]

theorem elementOfSymbol_of_not_other {y : Symbol} (h : isOther y = false) :
    elementOfSymbol y = some (bitElement y) := by
  cases y
  · rfl
  · rfl
  · simp [isOther] at h

/-- A validated frame holds no OTHER at any position. -/
theorem not_other_of_getElem? {f : List Symbol} {i : Nat} {y : Symbol} (hf : hasOther f = false)
    (h : f[i]? = some y) : isOther y = false := by
  have hy : y ∈ f := List.mem_of_getElem? h
  simp only [hasOther, List.any_eq_false, Bool.not_eq_true] at hf
  exact hf y hy

/-- Every half-interval of a validated frame has its element. -/
theorem elementAt_isSome {f : List Symbol} {k : Nat} (hf : hasOther f = false) (hk : k < 4 * f.length + 8) :
    ∃ e, elementAt f k = some e := by
  rcases phaseAt_cases f.length k with ⟨h, -⟩ | ⟨h, h', -⟩ | ⟨h, -⟩
  · exact ⟨_, elementAt_header hk h⟩
  · have hy := List.getElem?_eq_getElem (l := f) (i := (k % (2 * f.length + 4) - 2) / 2) (by omega)
    exact ⟨_, (elementAt_bits hk h hy).trans (elementOfSymbol_of_not_other (not_other_of_getElem? hf hy))⟩
  · exact ⟨_, elementAt_end hk h⟩

theorem halfAt_even {k : Nat} (h : k % 2 = 0) : halfAt k = .mark := if_pos h

theorem halfAt_odd {k : Nat} (h : k % 2 = 1) : halfAt k = .space := if_neg (by omega)

end Sys2Proof.Laws
end

