-- ==== Sys2Proof/Laws/Step.lean ====
section
/-! SUPPORT. The inversion lemmas: everything an instruction and a step can do when they answer a next state. Claims over all
instructions and all steps are derived from these, not from unfolding. -/

namespace Sys2Proof.Laws

open Sys2Proof.Machine Sys2Proof.Safety

/-- What an instruction can do: answer an encode, fail in the encoder, be dropped while busy, accept a frame within MAX_FRAME_LEN
while ready (after a command snapshot, for SEND), or emit a half-interval of the selected element. -/
inductive Effect (i : Instr) (s t : State) : Prop where
  | encoded (c : Command) (fr : Bits) (hi : i = .encode c.mode c.temp c.fan) (hf : encodeCommand c = some fr)
      (ht : t = (s.snapshot c).reply (some .encode) .ok (some fr))
  | encodeFailed (c : Command) (hi : i = .encode c.mode c.temp c.fan) (hf : encodeCommand c = none)
      (ht : t = (s.snapshot c).raise .encoderInvalidArgument (some .encode))
  | sendFailed (c : Command) (hi : i = .send c.mode c.temp c.fan) (hb : s.busy = false) (hf : encodeCommand c = none)
      (ht : t = (s.snapshot c).raise .encoderInvalidArgument (some .send))
  | dropped (hi : ∀ mode temp fan, i ≠ .encode mode temp fan) (he : ∀ e, i ≠ instrOf e) (hb : s.busy = true)
      (ht : t = s.refuseOverlap)
  | transmitted (f : List Symbol) (hi : i = .transmit f ∨ ∃ t' f' p m c k, i = .frame72 t' f' p m c k)
      (hb : s.busy = false) (hm : s.frameFits f = true) (ht : t = s.accept .transmit f)
  | sent (c : Command) (fr : Bits) (hi : i = .send c.mode c.temp c.fan) (hb : s.busy = false)
      (hf : encodeCommand c = some fr) (hm : s.frameFits (symbolsOfBits fr) = true)
      (ht : t = (s.snapshot c).accept .send (symbolsOfBits fr))
  | emitted (e : Element) (k : Nat) (f : List Symbol) (hi : i = instrOf e) (hx : s.tx = .run k)
      (hf : s.framebuf = some f) (he : elementAt f k = some e)
      (ht : t = s.emitHalf (halfOfElement e (halfAt k)) k)

/-- A pulse element that answers a next state was selected and emitted a half-interval. -/
theorem effect_of_runElement {e : Element} {s t : State} (h : s.runElement e = .next t) :
    Effect (instrOf e) s t := by
  rcases runElement_cases e s with ⟨k, hs, hr⟩ | ⟨-, hr⟩
  · obtain ⟨hx, f, hf, he⟩ := (selected_eq_some_iff s e k).1 hs
    rw [hr] at h
    exact .emitted e k f rfl hx hf he (by cases h; rfl)
  · rw [hr] at h; cases h

/-- A frame presented on behalf of TRANSMIT was dropped or accepted. -/
theorem effect_of_requestTransmit {i : Instr} {f : List Symbol} {s t : State}
    (hi : i = .transmit f ∨ ∃ t' f' p m c k, i = .frame72 t' f' p m c k)
    (h : s.requestTransmit .transmit f = .next t) : Effect i s t := by
  rcases requestTransmit_cases .transmit f s with ⟨hb, hr⟩ | ⟨hb, hm, hr⟩ | ⟨-, -, hr⟩ <;> rw [hr] at h <;> cases h
  · refine .dropped ?_ ?_ hb rfl
    · rintro mode temp fan rfl; simp at hi
    · rintro e rfl; cases e <;> simp [instrOf] at hi
  · exact .transmitted f hi hb hm rfl

/-- The inversion lemma of exec. -/
theorem exec_effect {i : Instr} {s t : State} (h : exec i s = .next t) : Effect i s t := by
  cases i with
  | encode mode temp fan =>
    rcases execEncode_cases mode temp fan s with ⟨fr, hf, hr⟩ | ⟨hf, hr⟩ <;>
      (simp only [exec, hr, Host.Outcome.next.injEq] at h; subst h)
    · exact .encoded ⟨mode, temp, fan⟩ fr rfl hf rfl
    · exact .encodeFailed ⟨mode, temp, fan⟩ rfl hf rfl
  | transmit f => exact effect_of_requestTransmit (.inl rfl) h
  | send mode temp fan =>
    rcases execSend_cases mode temp fan s with ⟨hb, hr⟩ | ⟨hb, hf, hr⟩ | ⟨hb, fr, hf, hm, hr⟩ | ⟨-, fr, -, -, hr⟩ <;>
      simp only [exec, hr, Host.Outcome.next.injEq, reduceCtorEq] at h <;> subst h
    · exact .dropped (by simp) (by intro e; cases e <;> simp [instrOf]) hb rfl
    · exact .sendFailed ⟨mode, temp, fan⟩ rfl hb hf rfl
    · exact .sent ⟨mode, temp, fan⟩ fr rfl hb hf hm rfl
  | frame72 t f p m c k => exact effect_of_requestTransmit (.inr ⟨t, f, p, m, c, k, rfl⟩) h
  | hdr => exact effect_of_runElement (e := .hdr) h
  | bit0 => exact effect_of_runElement (e := .bit0) h
  | bit1 => exact effect_of_runElement (e := .bit1) h
  | endMarker => exact effect_of_runElement (e := .endMarker) h

/-- A pulse element where the sequencer selects it. -/
theorem exec_instrOf {e : Element} {s : State} {k : Nat} {f : List Symbol} (hx : s.tx = .run k)
    (hf : s.framebuf = some f) (he : elementAt f k = some e) :
    exec (instrOf e) s = .next (s.emitHalf (halfOfElement e (halfAt k)) k) := by
  have hs : s.selected = some (e, k) := (selected_eq_some_iff s e k).2 ⟨hx, f, hf, he⟩
  have hr : s.runElement e = .next (s.emitHalf (halfOfElement e (halfAt k)) k) := by
    simp [State.runElement, hs]
  cases e <;> exact hr

/-- FRAME72 does what TRANSMIT of its bits as symbols does. -/
theorem exec_frame72 (t f : BitVec 4) (p : BitVec 1) (m : BitVec 2) (c : BitVec 4) (k : BitVec 2) (s : State) :
    exec (.frame72 t f p m c k) s = exec (.transmit (symbolsOfBits (frame72Bits t f p m c k))) s := rfl

/-- What a step can do: take a reset, execute a presented request, hand a presented frame to TRANSMIT, wait while ready, or let the
sequencer execute what it fetches. -/
inductive Move (s t : State) : Prop where
  | reset (rest : List Input) (hi : s.inbox = .reset :: rest) (ht : t = s.popInput.platformReset)
  | requested (r : Request) (rest : List Input) (i : Instr) (hi : s.inbox = .request r :: rest)
      (hd : decode (.request r) = .ok i) (ht : exec i s.popInput = .next t)
  | handedOver (bits : Bits) (rest : List Input) (hi : s.inbox = .frame bits :: rest)
      (ht : exec (.transmit (symbolsOfBits bits)) s.popInput = .next t)
  | waited (hq : quiet s) (hb : s.busy = false) (ht : t = s.popInput)
  | sequenced (c : Code) (i : Instr) (hq : quiet s) (hb : s.busy = true) (hf : s.fetch = some c) (hd : decode c = .ok i)
      (ht : exec i s.popInput = .next t)

/-- A request that answers a next state was decoded and executed. -/
theorem runRequest_next {r : Request} {s t : State} (h : s.runRequest r = .next t) :
    ∃ i, decode (.request r) = .ok i ∧ exec i s = .next t := by
  unfold State.runRequest at h
  cases hd : decode (.request r) with
  | ok i => exact ⟨i, rfl, by simpa [hd] using h⟩
  | error e => simp [hd] at h

/-- The fetch does not depend on the inbox. -/
@[simp] theorem fetch_popInput (s : State) : s.popInput.fetch = s.fetch := rfl

@[simp] theorem fetchInstr_popInput (s : State) : s.popInput.fetchInstr = s.fetchInstr := rfl

@[simp] theorem busy_popInput (s : State) : s.popInput.busy = s.busy := rfl

/-- The block's own move. -/
theorem move_of_sequence {s t : State} (hq : quiet s) (h : s.popInput.sequence = .next t) : Move s t := by
  unfold State.sequence at h
  rw [busy_popInput, fetchInstr_popInput] at h
  cases hb : s.busy with
  | false => exact .waited hq hb (by simpa [hb, eq_comm] using h)
  | true =>
    cases hi : s.fetchInstr with
    | error r => simp [hb, hi] at h
    | ok i =>
      obtain ⟨c, hf, hd⟩ := (fetchInstr_eq_ok_iff s i).1 hi
      exact .sequenced c i hq hb hf hd (by simpa [hb, hi] using h)

theorem popInput_of_nil {s : State} (h : s.inbox = []) : s.popInput = s := by
  simp [State.popInput, h]; rw [← h]

/-- The inversion lemma of step. -/
theorem step_move {s t : State} (h : step s = .next t) : Move s t := by
  unfold step at h
  split at h
  · rename_i r rest hi
    obtain ⟨i, hd, ht⟩ := runRequest_next h
    exact .requested r rest i hi hd ht
  · rename_i b rest hi
    exact .handedOver b rest hi h
  · rename_i rest hi
    exact .reset rest hi (by cases h; rfl)
  · rename_i rest hi
    exact move_of_sequence (.inr ⟨rest, hi⟩) h
  · rename_i hi
    exact move_of_sequence (.inl hi) (by rw [popInput_of_nil hi]; exact h)

/-! ### Runs -/

/-- A run goes on after a step that answered a next state, in any machine. -/
theorem machine_run_succ (M : Host.Core) (n : Nat) {s t : M.State} (h : M.step s = .next t) :
    M.run (n + 1) s = M.run n t := by
  rw [Host.Core.run, h]

theorem machine_run_fault (M : Host.Core) (n : Nat) {s : M.State} {r : M.Fault} (h : M.step s = .fault r) :
    M.run (n + 1) s = .fault r := by
  rw [Host.Core.run, h]

theorem machine_run_refused (M : Host.Core) (n : Nat) {s : M.State} {r : M.Refusal} (h : M.step s = .refused r) :
    M.run (n + 1) s = .refused r := by
  rw [Host.Core.run, h]

theorem run_succ {n : Nat} {s t : State} (h : step s = .next t) :
    Host.Core.run core (n + 1) s = Host.Core.run core n t := machine_run_succ core n h

theorem run_zero (s : State) : Host.Core.run core 0 s = .next s := rfl

end Sys2Proof.Laws
end

