-- ==== Sys2Proof/Tests/Slice0.lean ====
section
/-! SUPPORT. The model's own tests: the WellFormed smoke tests, words written out from the spec's encodings, the spec's examples
and vectors (spec/95_test_vectors.md), and for every statement with hypotheses a witness that meets them. -/

namespace Sys2Proof.Tests

open Sys2Proof.Machine Sys2Proof.Safety Sys2Proof.Laws

/-! ### Helpers -/

/-- The next state of an outcome, if it is one. -/
def nextOf : Host.Outcome State Fault Refusal → Option State
  | .next t => some t
  | .fault _ => none
  | .refused _ => none

/-- The frame in the last reply. -/
def lastFrame (s : State) : Option Bits := s.replies.getLast? >>= Reply.frame

/-- A transmission of `f` in Run(k), all calls so far answered ok, the coming answers given. -/
def running (f : List Symbol) (k : Nat) (answers : List Answer) : State :=
  { State.reset with
    framebuf := some f
    tx := .run k
    requester := some .transmit
    trace := emittedTrace f k
    carrier := if k % 2 = 0 then .off else .on
    answers := answers }

/-- A state whose last transmission was rejected. -/
def abortedState : State :=
  { State.reset with
    framebuf := some [.other 50]
    tx := .aborted
    result := .invalidArgument
    replies := [⟨.transmit, .invalidArgument, none⟩] }

/-! ### WellFormed smoke tests: each check refuses an ill-formed term -/

theorem test_wf_refuses_mode_number_of_a_mode_encode : (Instr.encode (.other 2) 24 60).WellFormed = false := by decide
theorem test_wf_refuses_mode_number_of_a_mode_send : (Instr.send (.other 0) 24 60).WellFormed = false := by decide
/-- The frame of 95 V4 with its last bit set: checksum2 is 1 where the mode code asks for 0. -/
theorem test_wf_refuses_second_checksum : (Instr.frame72 7 8 0 1 15 1).WellFormed = false := by decide
theorem test_wf_refuses_first_checksum : (Instr.frame72 7 8 0 1 14 0).WellFormed = false := by decide
theorem test_wf_accepts_spec_frames :
    (Instr.frame72 7 8 0 1 15 0).WellFormed = true ∧ (Instr.frame72 13 12 1 3 9 2).WellFormed = true ∧
      (Instr.encode (.other 4) 24 60).WellFormed = true := by decide

/-! ### Decoding: words from the spec's encodings -/

/-- 95 P1 line 1: op=0, mode=1, temp=24, fan=60. -/
theorem test_decode_encode : decode (.request ⟨0, 1, 24, 60, []⟩) = .ok (.encode (.named .cool) 24 60) := by decide
/-- 95 V2 row 7: numeric mode 4 is presented and kept as such. -/
theorem test_decode_encode_numeric_mode : decode (.request ⟨0, 4, 24, 60, []⟩) = .ok (.encode (.other 4) 24 60) := by
  decide
/-- 95 P3 line 2: op=1, frame "0120". -/
theorem test_decode_transmit : decode (.request ⟨1, 0, 0, 0, symbolsOfString "0120"⟩) =
    .ok (.transmit [.zero, .one, .other 50, .zero]) := by decide
/-- 95 P2 line 1: op=2, mode=3, temp=20, fan=0. -/
theorem test_decode_send : decode (.request ⟨2, 3, 20, 0, []⟩) = .ok (.send (.named .off) 20 0) := by decide
/-- 30 R56: op=3. -/
theorem test_decode_selector_three : decode (.request ⟨3, 0, 0, 0, []⟩) = .error .notAnOperation := by decide
/-- 95 V1 row 17: OFF, 30, 100 is F2 0D 03 FC 01 D0 C7 00 96; every field of the pattern, written bit by bit. -/
theorem test_decode_frame72 : decode (.frame
    [true, true, true, true, false, false, true, false, false, false, false, false, true, true, false, true,
     false, false, false, false, false, false, true, true, true, true, true, true, true, true, false, false,
     false, false, false, false, false, false, false, true,
     true, true, false, true, false, false, false, false,
     true, true, false, false, false, true, true, true,
     false, false, false, false, false, false, false, false,
     true, false, false, true, false, true, true, false]) = .ok (.frame72 13 12 1 3 9 2) := by decide
/-- The same frame with the repeated power bit (position 69) cleared, and with a padding bit set. -/
theorem test_decode_frame72_refuses :
    decode (.frame (be 72 0xF20D03FC01D0C70092)) = .error .powerBitRepeat ∧
    decode (.frame (be 72 0xF20D03FC01D1C70096)) = .error .padding ∧
    decode (.frame (be 72 0xF20D03FC00D0C70096)) = .error .vendorHeader ∧
    decode (.frame (be 71 0xF20D03FC01D0C70096)) = .error .frameLength := by decide
/-- 30 R54: the elements. -/
theorem test_decode_elements :
    decode (.symbol .zero) = .ok .bit0 ∧ decode (.symbol .one) = .ok .bit1 ∧
    decode (.symbol (.other 50)) = .error .otherSymbol ∧
    decode (.implicit .sendingHeader) = .ok .hdr ∧ decode (.implicit .sendingEnd) = .ok .endMarker ∧
    decode (.implicit (.sendingBits 0)) = .error .noElement := by decide

/-! ### The opcode table's words run as the first instruction after reset -/

theorem test_table_words :
    decodeTableWord 8 0 = some (.encode (.named .auto) 0 0) ∧ decodeTableWord 8 1 = some (.transmit []) ∧
    decodeTableWord 8 2 = some (.send (.named .auto) 0 0) ∧ decodeTableWord 8 3 = none ∧
    decodeTableWord 72 0xF20D03FC01708100F0 = some (.frame72 7 8 0 1 15 0) ∧
    decodeTableWord 1 0 = some .bit0 ∧ decodeTableWord 1 1 = some .bit1 ∧ decodeTableWord 0 0 = some .hdr := by decide

theorem test_table_words_run :
    (nextOf (step (State.reset.withFetchWord 8 0))).map State.result = some .invalidArgument ∧
    (nextOf (step (State.reset.withFetchWord 8 1))).map State.tx = some (.run 0) ∧
    (nextOf (step (State.reset.withFetchWord 8 2))).map State.result = some .invalidArgument ∧
    (nextOf (step (State.reset.withFetchWord 72 0xF20D03FC01708100F0))).map State.len = some (some 72) := by decide

theorem test_element_words_run :
    (nextOf (step { State.reset.withFetchWord 0 0 with answers := [.ok] })).map State.trace =
      some [.setCarrier .on .ok, .delay 4400] ∧
    (nextOf (step { State.reset.withFetchWord 1 0 with answers := [.ok] })).map State.tx = some (.run 3) ∧
    (nextOf (step { State.reset.withFetchWord 1 1 with answers := [.ok] })).map State.tx = some (.run 3) := by decide

/-! ### The spec's vectors, at most two theorems an instruction -/

/-- 95 V1 rows 1, 2, 4, 12, 16: COOL 24 60; OFF 20 0; HEAT 30 100; HEAT 25 60 (checksum1 wraps to 0); COOL 30 100. -/
theorem test_encode_vectors :
    (nextOf (exec (.encode (.named .cool) 24 60) State.reset)) >>= lastFrame = some (be 72 0xF20D03FC01708100F0) ∧
    (nextOf (exec (.encode (.named .off) 20 0) State.reset)) >>= lastFrame = some (be 72 0xF20D03FC0130070036) ∧
    (nextOf (exec (.encode (.named .heat) 30 100) State.reset)) >>= lastFrame = some (be 72 0xF20D03FC01D0C30092) ∧
    (nextOf (exec (.encode (.named .heat) 25 60) State.reset)) >>= lastFrame = some (be 72 0xF20D03FC0180830002) ∧
    (nextOf (exec (.encode (.named .cool) 30 100) State.reset)) >>= lastFrame = some (be 72 0xF20D03FC01D0C10090) := by
  decide

/-- 95 V2: 16 and 31 degrees, fan -1 and 101, numeric mode 4, 273 degrees; the failure leaves TX as it was. -/
theorem test_encode_rejects :
    (nextOf (exec (.encode (.named .cool) 16 50) State.reset)).map State.result = some .invalidArgument ∧
    (nextOf (exec (.encode (.named .cool) 31 50) State.reset)).map State.result = some .invalidArgument ∧
    (nextOf (exec (.encode (.named .cool) 24 (-1)) State.reset)).map State.result = some .invalidArgument ∧
    (nextOf (exec (.encode (.named .cool) 24 101) State.reset)).map State.tx = some .idle ∧
    (nextOf (exec (.encode (.other 4) 24 60) State.reset)).map State.result = some .invalidArgument ∧
    (nextOf (exec (.encode (.named .heat) 273 60) State.reset)).map State.replies =
      some [⟨.encode, .invalidArgument, none⟩] := by decide

/-- 95 V10 and 41 R98: the empty frame is accepted; Aborted is ready. -/
theorem test_transmit_accepts :
    (nextOf (exec (.transmit []) State.reset)).map State.tx = some (.run 0) ∧
    (nextOf (exec (.transmit [.one]) abortedState)).map State.tx = some (.run 0) ∧
    (nextOf (exec (.transmit [.one]) abortedState)).map State.requester = some (some .transmit) := by decide

/-- 95 V7 row 3: "0101 " is rejected with an empty trace and CARRIER unchanged, even where every call would fail. -/
theorem test_transmit_rejects :
    (nextOf (exec (.transmit (symbolsOfString "0101 ")) { State.reset with answers := [.fail] })).map
      (fun t => (t.tx, t.result, t.trace, t.carrier, t.answers)) =
    some (.aborted, .invalidArgument, [], .off, [.fail]) := by decide

/-- 95 V10: TRANSMIT while Run(7) does not disturb the transmission; the mark is kept. -/
theorem test_transmit_while_running :
    (nextOf (exec (.transmit [.one]) (running [.one] 7 []))).map (fun t => (t.tx, t.framebuf, t.overlap)) =
    some (.run 7, some [.one], true) := by decide

/-- 95 P2 line 1: SEND OFF, 20, 0 latches F2 0D 03 FC 01 30 07 00 36. -/
theorem test_send_starts :
    (nextOf (exec (.send (.named .off) 20 0) State.reset)).map (fun t => (t.tx, t.framebuf, t.requester)) =
    some (.run 0, some (symbolsOfBits (be 72 0xF20D03FC0130070036)), some .send) := by decide

/-- 42 R105: a SEND whose encoding fails leaves TX as it was. -/
theorem test_send_rejects :
    (nextOf (exec (.send (.named .cool) 31 50) abortedState)).map (fun t => (t.tx, t.result, t.framebuf)) =
    some (.aborted, .invalidArgument, some [.other 50]) := by decide

/-- 95 V4: the frame with a wrong checksum2 is sent all the same. -/
theorem test_frame72_is_sent :
    (nextOf (exec (.frame72 7 8 0 1 15 1) State.reset)).map (fun t => (t.tx, t.framebuf)) =
    some (.run 0, some (symbolsOfBits (be 72 0xF20D03FC01708100F1))) := by decide

/-- 30 R58: a frame presented as bits is sent as given, here with a wrong header bit, and with three bits only. -/
theorem test_presented_frames_are_sent_as_given :
    (nextOf (step { State.reset with inbox := [.frame (be 72 0xF20D03FC00708100F0)] })).map State.framebuf =
      some (some (symbolsOfBits (be 72 0xF20D03FC00708100F0))) ∧
    (nextOf (step { State.reset with inbox := [.frame [true, false, true]] })).map (fun t => (t.tx, t.framebuf)) =
      some (.run 0, some [.one, .zero, .one]) := by decide

/-- 93 U15: with a bound of two symbols, two are sent and three are refused. -/
theorem test_bound :
    (nextOf (exec (.transmit [.one, .zero]) { State.reset with maxFrameLen := some 2 })).map State.tx = some (.run 0) ∧
    nextOf (exec (.transmit [.one, .zero, .one]) { State.reset with maxFrameLen := some 2 }) = none := by decide

/-- 92 D6: the numeric result codes. -/
theorem test_result_codes :
    Result.ok.code = some 0 ∧ Result.invalidArgument.code = some 1 ∧ Result.hardwareFailure.code = some 2 ∧
    Result.none.code = none := by decide

/-- 95 V5 row 4, K = 1 and K = 8: the header's space, and its mark in the second frame. -/
theorem test_hdr :
    (nextOf (exec .hdr (running [.one, .zero] 1 [.ok]))).map (fun t => (t.tx, t.carrier, t.trace.drop 2)) =
      some (.run 2, .off, [.setCarrier .off .ok, .delay 4350]) ∧
    (nextOf (exec .hdr (running [.one, .zero] 8 [.ok]))).map (fun t => (t.tx, t.carrier, t.trace.drop 16)) =
      some (.run 9, .on, [.setCarrier .on .ok, .delay 4400]) := by decide

/-- 95 V5 row 4, K = 5: the symbol ZERO's space. -/
theorem test_bit0 :
    (nextOf (exec .bit0 (running [.one, .zero] 5 [.ok]))).map (fun t => (t.tx, t.carrier, t.trace.drop 10)) =
      some (.run 6, .off, [.setCarrier .off .ok, .delay 520]) := by decide

/-- 95 V5 row 4, K = 3; 95 V8 row 1, "101" failing at K = 5. -/
theorem test_bit1 :
    (nextOf (exec .bit1 (running [.one, .zero] 3 [.ok]))).map (fun t => (t.tx, t.carrier, t.trace.drop 6)) =
      some (.run 4, .off, [.setCarrier .off .ok, .delay 1600]) := by decide

/-- 95 V8 row 1: "101" fails at K = 5, in the ZERO's space: no delay, Aborted; 93 U10: FRAMEBUF holds no value. -/
theorem test_bit0_failing :
    (nextOf (exec .bit0 (running [.one, .zero, .one] 5 [.fail]))).map
      (fun t => (t.tx, t.result, t.trace.drop 10, t.framebuf)) =
    some (.aborted, .hardwareFailure, [.setCarrier .off .fail], none) := by decide

/-- 95 V5 row 4, K = 7 and K = 15: the end space of each frame; after the second, Done, with no frame kept (93 U10). -/
theorem test_end :
    (nextOf (exec .endMarker (running [.one, .zero] 7 [.ok]))).map (fun t => (t.tx, t.trace.drop 14)) =
      some (.run 8, [.setCarrier .off .ok, .delay 7450]) ∧
    (nextOf (exec .endMarker (running [.one, .zero] 15 [.ok]))).map (fun t => (t.tx, t.result, t.carrier, t.framebuf)) =
      some (.done, .ok, .off, none) := by decide

/-- An element the sequencer does not select: HDR while a bit is sent. -/
theorem test_unselected_element : nextOf (exec .hdr (running [.one] 2 [.ok])) = none := by decide

/-- 95 V5 row 5 and V9: "101" lasts 44320 over 20 half-intervals; 95 V6: COOL 24 60 lasts 245200 over 296. -/
theorem test_schedule_sums :
    totalMicroseconds (schedule (symbolsOfString "101")) = 44320 ∧ (schedule (symbolsOfString "101")).length = 20 ∧
    totalMicroseconds (schedule (symbolsOfBits (be 72 0xF20D03FC01708100F0))) = 245200 ∧
    (schedule (symbolsOfBits (be 72 0xF20D03FC01708100F0))).length = 296 := by decide +kernel

/-- 95 V8 row 6: the S2 frame failing at K = 150 has delays summing to 131350. -/
theorem test_schedule_sum_before_failure :
    totalMicroseconds ((schedule (symbolsOfBits (be 72 0xF20D03FC0130070036))).take 150) = 131350 := by decide +kernel

/-- 10 R16 on 95 V6: positions of K for L = 72. -/
theorem test_phases :
    phaseAt 72 2 = .sendingBits 0 ∧ phaseAt 72 11 = .sendingBits 4 ∧ phaseAt 72 146 = .sendingEnd ∧
    phaseAt 72 148 = .sendingHeader ∧ phaseAt 72 150 = .sendingBits 0 ∧ phaseAt 72 295 = .sendingEnd ∧
    repAt 72 147 = 0 ∧ repAt 72 148 = 1 := by decide

/-- What the host reads: PHASE, REP, I and HALF in Run(3) of "10". -/
theorem test_status :
    (running [.one, .zero] 3 []).phase = some (.sendingBits 0) ∧ (running [.one, .zero] 3 []).rep = some 0 ∧
    (running [.one, .zero] 3 []).bitIndex = some 0 ∧ (running [.one, .zero] 3 []).half = some .space ∧
    abortedState.phase = some .aborted ∧ abortedState.memRead 0 = none := by decide

/-- 20 R44: the diagnostic string of the frame of 95 S1. -/
theorem test_diagnostic_string :
    diagnosticString (be 72 0xF20D03FC01708100F0) =
      "111100100000110100000011111111000000000101110000100000010000000011110000" := by decide +kernel

/-! ### Witnesses: the hypotheses of the statements can be met -/

theorem witness_DecodeOfEncode : (Instr.frame72 13 12 1 3 9 2).WellFormed = true ∧
    (Instr.encode (.other 4) 24 60).WellFormed = true := by decide

theorem witness_FrameDecodesOnlyToItself : ∃ i, decode (.frame (be 72 0xF20D03FC01708100F0)) = .ok i :=
  ⟨.frame72 7 8 0 1 15 0, by decide⟩

theorem witness_SelectorThreeRefused :
    State.inbox { State.reset with inbox := [.request ⟨3#2, 0, 0, 0, []⟩] } = .request ⟨3#2, 0, 0, 0, []⟩ :: [] := rfl

/-- A valid command at each end of the ranges, by name and by number. It meets the hypothesis of every statement about a valid
ENCODE or SEND. -/
theorem witness_validCommand :
    validCommand (.named .off) .off 17 0 ∧ validCommand (.other 2) .heat 30 100 ∧ validCommand (.named .cool) .cool 24 60 ∧
    validCommand (.named .auto) .auto 17 100 ∧ validCommand (.named .heat) .heat 30 1 := by
  refine ⟨⟨.inl rfl, ?_⟩, ⟨.inr ⟨2, rfl, rfl⟩, ?_⟩, ⟨.inl rfl, ?_⟩, ⟨.inl rfl, ?_⟩, ⟨.inl rfl, ?_⟩⟩ <;> decide

/-- An out-of-range command by each field, just outside each bound. -/
theorem witness_invalidCommand :
    invalidCommand (.other 4) 24 60 ∧ invalidCommand (.other (-1)) 24 60 ∧ invalidCommand (.named .cool) 16 50 ∧
    invalidCommand (.named .cool) 31 50 ∧ invalidCommand (.named .off) 17 (-1) ∧ invalidCommand (.named .off) 17 101 :=
  ⟨.inl ⟨4, rfl, by decide⟩, .inl ⟨-1, rfl, by decide⟩, .inr (by decide), .inr (by decide), .inr (by decide),
    .inr (by decide)⟩

theorem witness_EncodeRejectsOutOfRange : invalidCommand (.other 4) 24 60 ∧ validCommand (.named .cool) .cool 24 60 :=
  ⟨witness_invalidCommand.1, witness_validCommand.2.2.1⟩

/-- Every length is within the default bound, and a length equal to a bound is within it. -/
theorem witness_withinBound :
    (∀ len, withinBound State.reset len) ∧ withinBound { State.reset with maxFrameLen := some 72 } 72 :=
  ⟨(fun _ _ h => nomatch h), fun _ h => by cases h; exact Nat.le_refl 72⟩

theorem witness_SendEncodesAndStarts :
    validCommand (.named .off) .off 17 0 ∧ State.reset.busy = false ∧ withinBound State.reset 72 :=
  ⟨witness_validCommand.1, rfl, witness_withinBound.1 72⟩

/-- A bound of 71 is just too short for a FRAME72, and a bound of 0 for a frame of one symbol. -/
theorem witness_TooLongFramesRefused :
    State.busy { State.reset with maxFrameLen := some 71 } = false ∧ 71 < 72 ∧
    validCommand (.named .cool) .cool 24 60 ∧ 0 < ([.one] : List Symbol).length :=
  ⟨rfl, by decide, witness_validCommand.2.2.1, by decide⟩

theorem witness_SendRejectsOutOfRange : invalidCommand (.named .cool) 31 50 ∧ abortedState.busy = false :=
  ⟨witness_invalidCommand.2.2.2.1, rfl⟩

/-- For the second clause, the empty frame and a frame that is no FRAME72. -/
theorem witness_FrameHandOverTransmits :
    abortedState.busy = false ∧ withinBound abortedState 72 ∧
    State.inbox { abortedState with inbox := [.frame []] } = .frame [] :: [] ∧
    State.inbox { State.reset with inbox := [.frame [true]] } = .frame [true] :: [] ∧ withinBound abortedState 0 :=
  ⟨rfl, (fun _ h => nomatch h), rfl, rfl, fun _ h => nomatch h⟩

theorem witness_EncodeIsDeterministic :
    (∃ t, exec (.encode (.named .cool) 24 60) State.reset = .next t) ∧
    ∃ t, exec (.encode (.named .cool) 24 60) abortedState = .next t := ⟨⟨_, rfl⟩, ⟨_, rfl⟩⟩

theorem witness_OffAndHeatDifferInPowerBits : (17 : Int) ≤ 17 ∧ (30 : Int) ≤ 30 ∧ (0 : Int) ≤ 0 ∧ (100 : Int) ≤ 100 := by
  decide

theorem witness_FramesTellCommandsApart :
    validCommand (.named .cool) .cool 17 1 ∧ validCommand (.named .cool) .cool 17 19 ∧
    encodedFrame .cool 17 1 = encodedFrame .cool 17 19 :=
  ⟨⟨.inl rfl, by decide⟩, ⟨.inl rfl, by decide⟩, by decide⟩

theorem witness_TransmitAcceptsWhenReady :
    State.reset.busy = false ∧ abortedState.busy = false ∧ hasOther [] = false ∧ hasOther [.one, .zero] = false ∧
    withinBound State.reset 0 := ⟨rfl, rfl, rfl, rfl, witness_withinBound.1 0⟩

theorem witness_TransmitRejectsOtherSymbols :
    State.reset.busy = false ∧ ([.one, .other 50] : List Symbol)[1]? = some (.other 50) ∧
    ([.other 50] : List Symbol)[0]? = some (.other 50) ∧ withinBound State.reset 2 :=
  ⟨rfl, rfl, rfl, witness_withinBound.1 2⟩

theorem witness_BusyRequestsLeaveOnlyAMark : (running [.one] 7 []).busy = true := by decide

theorem witness_TerminalStatesAcceptAsIdle : abortedState.busy = false ∧ ∃ frame, Instr.transmit [.one] = .transmit frame :=
  ⟨by decide, _, rfl⟩

theorem witness_ScheduleAgreesWithPositions : hasOther [.one, .zero] = false ∧ hasOther [] = false := by decide

theorem witness_NominalDuration : hasOther [] = false ∧ hasOther [.one, .zero, .one] = false := by decide

theorem witness_ScheduleShape : (scheduleAt [.one] 0).isSome = true ∧ (scheduleAt [.one] 11).isSome = true := by decide

theorem witness_TrainReadsBack : hasOther [.one, .zero] = false ∧ pulseTrain [.one, .zero] = pulseTrain [.one, .zero] :=
  ⟨by decide, rfl⟩

theorem witness_HeaderAndEndPositions : 0 < 4 * 0 + 8 ∧ 7 < 4 * 0 + 8 ∧ phaseAt 1 2 = .sendingBits 0 := by decide

theorem witness_HeaderElementEmits :
    (running [.one] 0 [.ok]).tx = .run 0 ∧ (running [.one] 0 [.ok]).framebuf = some [.one] ∧ 0 % (2 * 1 + 4) < 2 ∧
    (running [.one] 0 [.ok]).answer = .ok ∧ (running [.one] 7 [.ok]).tx = .run 7 ∧ 7 % (2 * 1 + 4) < 2 := by decide

theorem witness_ZeroBitElementEmits :
    (running [.zero] 9 [.ok]).tx = .run 9 ∧ 9 < 4 * 1 + 8 ∧ 2 ≤ 9 % (2 * 1 + 4) ∧
    ([.zero] : List Symbol)[(9 % (2 * 1 + 4) - 2) / 2]? = some .zero ∧ (running [.zero] 9 [.ok]).answer = .ok := by decide

theorem witness_OneBitElementEmits :
    (running [.one] 2 [.ok]).tx = .run 2 ∧ 2 < 4 * 1 + 8 ∧ 2 ≤ 2 % (2 * 1 + 4) ∧
    ([.one] : List Symbol)[(2 % (2 * 1 + 4) - 2) / 2]? = some .one ∧ (running [.one] 2 [.ok]).answer = .ok := by decide

theorem witness_EndElementEmits :
    (running [.one] 5 [.ok]).tx = .run 5 ∧ 5 + 1 < 4 * 1 + 8 ∧ 2 * 1 + 2 ≤ 5 % (2 * 1 + 4) ∧
    (running [.one] 5 [.ok]).answer = .ok ∧ 10 + 1 < 4 * 1 + 8 ∧ 2 * 1 + 2 ≤ 10 % (2 * 1 + 4) := by decide

theorem witness_LastHalfCompletes :
    (running [] 7 [.ok]).tx = .run (4 * 0 + 7) ∧ (running [] 7 [.ok]).framebuf = some [] ∧
    (running [] 7 [.ok]).requester = some .transmit ∧ (running [] 7 [.ok]).answer = .ok := by decide

theorem witness_FailedCallAborts :
    (running [.one] 11 [.fail]).tx = .run 11 ∧ elementAt [.one] 11 = some .endMarker ∧
    (running [.one] 11 [.fail]).answer = .fail ∧ elementAt [.one] 0 = some .hdr ∧ elementAt [.one] 2 = some .bit1 ∧
    elementAt [.zero] 9 = some .bit0 ∧ (running [.one] 11 [.fail]).requester = some .transmit := by decide

theorem witness_ElementIsTwoSteps :
    elementAt [.one] 10 = some .endMarker ∧ 10 % 2 = 0 ∧ 10 + 2 = 4 * 1 + 8 ∧
    elementAt [.one] 0 = some .hdr ∧ (running [.one] 10 [.ok, .ok]).answers = .ok :: .ok :: [] := by decide

theorem witness_UnselectedElementRefused :
    ∀ k f, State.reset.tx = .run k → State.reset.framebuf = some f → elementAt f k ≠ some .hdr := by
  intro k f h; cases h

/-- Three states for the three clauses: a request, a frame, a running sequencer with nothing presented. -/
theorem witness_StepRunsDecodedInstruction :
    State.inbox { State.reset with inbox := [.request ⟨0, 1, 24, 60, []⟩] } = .request ⟨0, 1, 24, 60, []⟩ :: [] ∧
    (∃ i, decode (.request ⟨0, 1, 24, 60, []⟩) = .ok i) ∧
    State.inbox { running [.one] 2 [] with inbox := [.frame (be 72 0xF20D03FC01708100F0), .nothing] } =
      .frame (be 72 0xF20D03FC01708100F0) :: [.nothing] ∧
    (∃ i, decode (.frame (be 72 0xF20D03FC01708100F0)) = .ok i) ∧
    (running [.one] 2 [.ok]).tx = .run 2 ∧ quiet (running [.one] 2 [.ok]) ∧ (running [.one] 2 [.ok]).fetch = some (.symbol .one) ∧
    decode (.symbol .one) = .ok .bit1 :=
  ⟨rfl, ⟨.encode (.named .cool) 24 60, by decide⟩, rfl, ⟨.frame72 7 8 0 1 15 0, by decide⟩, rfl, .inl rfl, by decide,
    by decide⟩

theorem witness_FetchDecodesToSelectedElement :
    (running [.zero] 3 []).tx = .run 3 ∧ (running [.zero] 3 []).framebuf = some [.zero] ∧
    elementAt [.zero] 3 = some .bit0 := by decide

theorem witness_ReadyBlockWaits :
    abortedState.busy = false ∧ quiet abortedState ∧ quiet { abortedState with inbox := [.nothing] } :=
  ⟨by decide, .inl rfl, .inr ⟨[], rfl⟩⟩

theorem witness_ResetLosesTheRequest :
    State.inbox { running [.one] 3 [] with inbox := [.reset] } = .reset :: [] := rfl

/-- A running state that meets the whole invariant and takes a step: the second half-interval of the empty frame. -/
theorem witness_StepKeepsInvariant :
    Good (running [] 1 [.ok]) ∧ ∃ t, step (running [] 1 [.ok]) = .next t := by
  refine ⟨⟨?_, ?_, ?_, ?_, ?_⟩, ⟨_, rfl⟩⟩
  · intro k hk; cases hk; exact ⟨[], rfl, by decide, rfl⟩
  · exact .inl rfl
  · exact ⟨[], rfl, rfl⟩
  · refine ⟨by decide, ?_⟩
    intro k f h hk hf hs
    cases hk; cases hf; cases hs; rfl
  · intro h; exact absurd rfl h

theorem witness_StepKeepsPositionGood :
    positionGood (running [.one] 3 [.ok]) ∧ ∃ t, step (running [.one] 3 [.ok]) = .next t := by
  refine ⟨?_, ⟨_, rfl⟩⟩
  intro k hk; cases hk; exact ⟨[.one], rfl, by decide, rfl⟩

theorem witness_OwnMoveNeverStops :
    positionGood (running [.one] 3 []) ∧ quiet (running [.one] 3 []) := by
  refine ⟨?_, .inl rfl⟩
  intro k hk; cases hk; exact ⟨[.one], rfl, by decide, rfl⟩

/-- A step for each clause: a reset; a request and a frame in Run(K); the own move inside the schedule, from its last half-interval
(of the empty frame, K = 7) and failing; a ready state with and without something presented. -/
theorem witness_ControlFlow :
    (∃ t, step { running [.one] 3 [] with inbox := [.reset] } = .next t) ∧
    (∃ t, step { running [.one] 3 [] with inbox := [.request ⟨1, 0, 0, 0, []⟩] } = .next t) ∧
    (∃ t, step { running [.one] 3 [] with inbox := [.frame []] } = .next t) ∧
    (∃ t, step (running [] 6 [.ok]) = .next t ∧ quiet (running [] 6 [.ok]) ∧ (running [] 6 [.ok]).tx = .run 6) ∧
    (∃ t, step (running [] 7 [.ok]) = .next t ∧ t.tx = .done) ∧ (∃ t, step (running [] 7 [.fail]) = .next t ∧ t.tx = .aborted) ∧
    (∃ t, step State.reset = .next t ∧ State.reset.busy = false ∧ quiet State.reset) ∧
    ∃ t, step { abortedState with inbox := [.frame []] } = .next t ∧ t.tx = .run 0 :=
  ⟨⟨_, rfl⟩, ⟨_, rfl⟩, ⟨_, rfl⟩, ⟨_, rfl, .inl rfl, rfl⟩, ⟨_, rfl, rfl⟩, ⟨_, rfl, rfl⟩, ⟨_, rfl, rfl, .inl rfl⟩, ⟨_, rfl, rfl⟩⟩

/-- A step after which the transmission still runs, and one that ends it. -/
theorem witness_FrameBufferFixedWhileRunning :
    (running [.one] 3 [.ok]).busy = true ∧ (∀ rest, (running [.one] 3 [.ok]).inbox ≠ .reset :: rest) ∧
    (∃ t, step (running [.one] 3 [.ok]) = .next t ∧ t.busy = true) ∧
    ∃ t, step (running [.one] 11 [.ok]) = .next t ∧ t.busy = false :=
  ⟨rfl, (fun _ h => nomatch h), ⟨_, rfl, rfl⟩, ⟨_, rfl, rfl⟩⟩

theorem witness_RequestsMakeNoPrimitiveCall :
    (∀ e, Instr.transmit [.one] ≠ instrOf e) ∧ ∃ t, exec (.transmit [.one]) State.reset = .next t :=
  ⟨by intro e; cases e <;> simp [instrOf], ⟨_, rfl⟩⟩

theorem witness_ElementsMakeOneCallPair :
    (∃ t, exec (instrOf .hdr) (running [.one] 0 [.ok]) = .next t) ∧ (running [.one] 0 [.ok]).answer = .ok ∧
    (∃ t, exec (instrOf .hdr) (running [.one] 0 [.fail]) = .next t) ∧ (running [.one] 0 [.fail]).answer = .fail :=
  ⟨⟨_, rfl⟩, rfl, ⟨_, rfl⟩, rfl⟩

theorem witness_OnlyEncodeAndSendWriteCommand :
    ∃ t, exec (.send (.named .cool) 24 60) State.reset = .next t ∧ t.cmd ≠ State.reset.cmd :=
  ⟨_, rfl, by decide⟩

theorem witness_ResultWrittenOncePerOperation :
    requesterGood (running [.one] 11 [.ok]) ∧ (∃ t, exec .endMarker (running [.one] 11 [.ok]) = .next t) ∧
    requesterGood (running [.one] 0 [.ok]) ∧ ∃ t, exec .hdr (running [.one] 0 [.ok]) = .next t :=
  ⟨.inl rfl, ⟨_, rfl⟩, .inl rfl, ⟨_, rfl⟩⟩

/-- At the last half-interval, where the transmission ends, and at the first, where it goes on. -/
theorem witness_EncodeDoesNotDisturbTransmission :
    (∃ t, exec (instrOf .endMarker) (running [.one] 11 [.ok]) = .next t) ∧
    ∃ t, exec (instrOf .hdr) (running [.one] 0 [.ok]) = .next t := ⟨⟨_, rfl⟩, ⟨_, rfl⟩⟩

theorem witness_OverlapMarkStays :
    State.overlap { running [.one] 3 [.ok] with overlap := true } = true ∧
    ∃ t, step { running [.one] 3 [.ok] with overlap := true } = .next t := ⟨rfl, ⟨_, rfl⟩⟩

theorem witness_AllOkTransmissionCompletes :
    (running [] 0 (List.replicate 8 .ok)).tx = .run 0 ∧ (running [] 0 (List.replicate 8 .ok)).framebuf = some [] ∧
    hasOther [] = false ∧ (running [] 0 (List.replicate 8 .ok)).inbox = [] ∧
    (running [] 0 (List.replicate 8 .ok)).requester = some .transmit ∧
    (running [] 0 (List.replicate 8 .ok)).answers = List.replicate (4 * 0 + 8) .ok ++ [] := by decide

theorem witness_FirstFailureEndsTransmission :
    (running [] 0 [.fail]).tx = .run 0 ∧ (schedule [])[0]? = some ⟨.on, 4400⟩ ∧
    (running [] 0 [.fail]).answers = List.replicate 0 .ok ++ .fail :: [] ∧
    (running [] 0 (List.replicate 7 .ok ++ [.fail])).answers = List.replicate 7 .ok ++ .fail :: [] ∧
    (schedule [])[7]? = some ⟨.off, 7450⟩ := by decide

theorem witness_TransmissionEnds :
    positionGood (running [.one] 3 []) ∧ (running [.one] 3 []).tx = .run 3 ∧
    (running [.one] 3 []).framebuf = some [.one] ∧ (running [.one] 3 []).inbox = [] := by
  refine ⟨?_, rfl, rfl, rfl⟩
  intro k hk; cases hk; exact ⟨[.one], rfl, by decide, rfl⟩

end Sys2Proof.Tests
end

section
/-! PROOF of the family 30_encoding: what a valid ENCODE replies (spec/30_encoding.md R46, spec/40_encoder.md R65). -/

namespace Sys2Proof.Proofs

open Sys2Proof.Machine Sys2Proof.Safety Sys2Proof.Laws

/-- The meaning of ENCODE is the encoder's operation. -/
theorem exec_encode (mode : ModeArg) (temp fan : Int) (s : State) :
    exec (.encode mode temp fan) s = execEncode mode temp fan s := rfl

/-- A valid ENCODE replies, in any state, with the frame of its mode, temperature and fan speed (R65). -/
theorem encodeReplies_encodedFrame {mode : ModeArg} {m : Mode} {temp fan : Int}
    (h : validCommand mode m temp fan) (s : State) : encodeReplies mode temp fan s (encodedFrame m temp fan) := by
  unfold encodeReplies
  rw [exec_encode, execEncode, encodeCommand_of_valid h]
  rfl

/-- The power bit as a bit group of width 1 (R70): set exactly for OFF. -/
theorem be_one_powerBit (m : Mode) : be 1 (powerBit m) = [decide (m = .off)] := by
  cases m <;> rfl

/-- The frame's segments in the order of the layout table (R45, R46), with the header and the zero padding written out. -/
theorem encodedFrame_segments (m : Mode) (t f : Int) : encodedFrame m t f =
    [true, true, true, true, false, false, true, false, false, false, false, false, true, true, false, true,
      false, false, false, false, false, false, true, true, true, true, true, true, true, true, false, false,
      false, false, false, false, false, false, false, true]
      ++ be 4 (temperatureCode t) ++ [false, false, false, false]
      ++ be 4 (fanCode f) ++ [false] ++ [decide (m = .off)] ++ be 2 (modeCode m)
      ++ [false, false, false, false, false, false, false, false]
      ++ be 4 ((temperatureCode t + fanCode f) % 16) ++ [false] ++ [decide (m = .off)]
      ++ be 2 (modeCode m ^^^ 1) := by
  rw [← be_one_powerBit]
  rfl

/-- Settles O5: the reply is `encodedFrame`, and `encodedFrame` is the concatenation of the segments of R46. -/
theorem encodeReturnsAssembledFrame : Obligations.EncodeReturnsAssembledFrame := by
  intro mode m temp fan s h
  rw [← encodedFrame_segments]
  exact encodeReplies_encodedFrame h s

end Sys2Proof.Proofs
end

section
/-! PROOF of the family 40_encoder: what stands in each field of the frame a valid ENCODE replies with
(spec/40_encoder.md R67 to R74), where the OFF and the HEAT frame differ (R76), and that the reply depends on the operands
only (R75). -/

namespace Sys2Proof.Proofs

open Sys2Proof.Machine Sys2Proof.Safety Sys2Proof.Laws

/-! ### The codes -/

/-- The subtraction of R67 does not truncate from TEMP_MIN on. -/
theorem temperatureCode_eq_sub {t : Int} (h : 17 ≤ t) : (temperatureCode t : Int) = t - 17 :=
  Int.toNat_of_nonneg (Int.sub_nonneg.2 h)

theorem fanCode_zero : fanCode 0 = 0 := rfl

/-- The second case of R68, with the division on integers. -/
theorem fanCode_of_pos {f : Int} (h : 0 < f) : (fanCode f : Int) = f.tdiv 20 * 2 + 2 := by
  have hdiv : f.tdiv 20 = f / 20 := Int.tdiv_eq_ediv_of_nonneg (Int.le_of_lt h)
  rw [fanCode, if_pos h, Config.fanStep, hdiv]
  omega

/-- The fan code of a speed other than 0 is at least 2: only speed 0 is automatic (R68). -/
theorem two_le_fanCode {f : Int} (h : 0 < f) : 2 ≤ fanCode f := by
  rw [fanCode, if_pos h]
  exact Nat.le_add_left 2 _

theorem fanCode_mem {f : Int} (h : f ≤ 100) : fanCode f ∈ [0, 2, 4, 6, 8, 10, 12] := by
  have hle := fanCode_le h
  have heven := fanCode_even f
  simp only [List.mem_cons, List.not_mem_nil, or_false]
  omega

theorem modeCode_mem (m : Mode) : modeCode m ∈ [0, 1, 3] := by
  cases m <;> decide

theorem checksum1_lt (tc fc : Nat) : checksum1 tc fc < 16 := Nat.mod_lt _ (by decide)

theorem checksum2_modeCode_mem (m : Mode) : checksum2 (modeCode m) ∈ [1, 0, 2] := by
  cases m <;> decide

theorem powerBit_mem (m : Mode) : powerBit m ∈ [0, 1] := by
  cases m <;> decide

theorem testBit_zero_powerBit (m : Mode) : (powerBit m).testBit 0 = decide (m = .off) := by
  cases m <;> rfl

/-! ### The fields of the encoded frame

Each segment holds the bit group of its code (R45), and the code is read back from it because it fits the segment's width
(R74). -/

@[simp] theorem encodedFrame_length (m : Mode) (t f : Int) : (encodedFrame m t f).length = 72 :=
  assembleFrame_length ..

theorem encodedFrame_temperature (m : Mode) {t : Int} (f : Int) (h : t ≤ 30) :
    bitsVal (((encodedFrame m t f).drop 40).take 4) = temperatureCode t := by
  rw [encodedFrame, assembleFrame_temperature]
  exact bitsVal_be_of_lt (Nat.lt_of_le_of_lt (temperatureCode_le h) (by decide))

theorem encodedFrame_fan (m : Mode) (t : Int) {f : Int} (h : f ≤ 100) :
    bitsVal (((encodedFrame m t f).drop 48).take 4) = fanCode f := by
  rw [encodedFrame, assembleFrame_fan]
  exact bitsVal_be_of_lt (Nat.lt_of_le_of_lt (fanCode_le h) (by decide))

theorem encodedFrame_mode (m : Mode) (t f : Int) :
    bitsVal (((encodedFrame m t f).drop 54).take 2) = modeCode m := by
  rw [encodedFrame, assembleFrame_mode]
  exact bitsVal_be_of_lt (by cases m <;> decide)

theorem encodedFrame_checksum1 (m : Mode) (t f : Int) :
    bitsVal (((encodedFrame m t f).drop 64).take 4) = checksum1 (temperatureCode t) (fanCode f) := by
  rw [encodedFrame, assembleFrame_checksum1]
  exact bitsVal_be_of_lt (checksum1_lt _ _)

theorem encodedFrame_checksum2 (m : Mode) (t f : Int) :
    bitsVal (((encodedFrame m t f).drop 70).take 2) = checksum2 (modeCode m) := by
  rw [encodedFrame, assembleFrame_checksum2]
  exact bitsVal_be_of_lt (by cases m <;> decide)

theorem encodedFrame_power_first (m : Mode) (t f : Int) :
    (encodedFrame m t f)[53]? = some (decide (m = .off)) := by
  rw [encodedFrame, assembleFrame_power_first, testBit_zero_powerBit]

theorem encodedFrame_power_repeat (m : Mode) (t f : Int) :
    (encodedFrame m t f)[69]? = some (decide (m = .off)) := by
  rw [encodedFrame, assembleFrame_power_repeat, testBit_zero_powerBit]

/-- Settles O7: the segment at 40 reads back the temperature code. -/
theorem temperatureCodeField : Obligations.TemperatureCodeField := by
  intro mode m temp fan s h
  have ⟨_, hmin, hmax, _⟩ := h
  refine ⟨_, encodeReplies_encodedFrame h s, ?_⟩
  rw [encodedFrame_temperature m fan hmax]
  exact ⟨temperatureCode_eq_sub hmin, temperatureCode_le hmax⟩

/-- Settles O8: the segment at 48 reads back the fan code, 0 for speed 0 and a positive even number up to 12 else. -/
theorem fanCodeField : Obligations.FanCodeField := by
  intro mode m temp fan s h
  have ⟨_, _, _, _, hmax⟩ := h
  refine ⟨_, encodeReplies_encodedFrame h s, ?_⟩
  rw [encodedFrame_fan m temp hmax]
  refine ⟨fun h0 => h0 ▸ fanCode_zero, fun hpos => ⟨fanCode_of_pos hpos, ?_⟩⟩
  have hne : fanCode fan ≠ 0 := Nat.ne_zero_of_lt (two_le_fanCode hpos)
  exact (List.mem_cons.1 (fanCode_mem hmax)).resolve_left hne

/-- Settles O9: the segment at 54 reads back the mode code, which is a case split over the mode. -/
theorem modeCodeField : Obligations.ModeCodeField := by
  intro mode m temp fan s h
  refine ⟨_, encodeReplies_encodedFrame h s, ?_⟩
  rw [encodedFrame_mode]
  cases m <;> decide

/-- Settles O10: both power bit positions hold the power bit's one bit. -/
theorem powerBitField : Obligations.PowerBitField := by
  intro mode m temp fan s h
  exact ⟨_, encodeReplies_encodedFrame h s, encodedFrame_power_first m temp fan, encodedFrame_power_repeat m temp fan⟩

/-- Settles O11: the three segments read back the two codes and their checksum. -/
theorem firstChecksumField : Obligations.FirstChecksumField := by
  intro mode m temp fan s h
  have ⟨_, _, htemp, _, hfan⟩ := h
  refine ⟨_, encodeReplies_encodedFrame h s, ?_⟩
  rw [encodedFrame_checksum1, encodedFrame_temperature m fan htemp, encodedFrame_fan m temp hfan, checksum1]

/-- Settles O12: the segments at 70 and 54 read back the checksum and the mode code, which is a case split over the mode. -/
theorem secondChecksumField : Obligations.SecondChecksumField := by
  intro mode m temp fan s h
  refine ⟨_, encodeReplies_encodedFrame h s, ?_⟩
  rw [encodedFrame_checksum2, encodedFrame_mode]
  cases m <;> decide

/-- Settles O13: the ranges of R74, code by code. -/
theorem codesFitTheirWidths : Obligations.CodesFitTheirWidths := by
  intro mode m temp fan h
  obtain ⟨-, -, htemp, -, hfan⟩ := h
  exact ⟨temperatureCode_le htemp, fanCode_mem hfan, modeCode_mem m, checksum2_modeCode_mem m,
    Nat.le_of_lt_succ (checksum1_lt _ _), powerBit_mem m, encodedFrame_length m temp fan⟩

/-! ### OFF and HEAT -/

/-- OFF has HEAT's mode code, hence HEAT's checksums: only the power bit is written anew, at its two positions (R69, R76). -/
theorem encodedFrame_off_eq_set_heat (t f : Int) :
    encodedFrame .off t f = ((encodedFrame .heat t f).set 53 true).set 69 true := by
  rw [encodedFrame, encodedFrame, assembleFrame_bits, assembleFrame_bits]
  rfl

/-- Settles O16: at 53 and 69 the power bits differ, and elsewhere the OFF frame is the HEAT frame. -/
theorem offAndHeatDifferInPowerBits : Obligations.OffAndHeatDifferInPowerBits := by
  intro temp fan s hmin hmax hfmin hfmax
  have hvalid (m : Mode) : validCommand (.named m) m temp fan := ⟨.inl rfl, hmin, hmax, hfmin, hfmax⟩
  refine ⟨_, _, encodeReplies_encodedFrame (hvalid .off) s, encodeReplies_encodedFrame (hvalid .heat) s, ?_⟩
  intro p
  constructor
  · intro hne
    by_contra hp
    obtain ⟨h53, h69⟩ := not_or.1 hp
    rw [encodedFrame_off_eq_set_heat, List.getElem?_set_ne (Ne.symm h69), List.getElem?_set_ne (Ne.symm h53)] at hne
    exact hne rfl
  · rintro (rfl | rfl)
    · rw [encodedFrame_power_first, encodedFrame_power_first]
      decide
    · rw [encodedFrame_power_repeat, encodedFrame_power_repeat]
      decide

/-! ### Determinism -/

/-- The reply to ENCODE of a command, as a function of the command alone (R65, R66, R75). -/
def encodeReply (c : Command) : Reply :=
  match encodeCommand c with
  | some fr => ⟨.encode, .ok, some fr⟩
  | none => ⟨.encode, .invalidArgument, none⟩

/-- ENCODE adds the one reply of its command, valid or not, in any state. -/
theorem replies_of_exec_encode {mode : ModeArg} {temp fan : Int} {s t : State}
    (h : exec (.encode mode temp fan) s = .next t) : t.replies = s.replies ++ [encodeReply ⟨mode, temp, fan⟩] := by
  rw [exec_encode] at h
  rcases execEncode_cases mode temp fan s with ⟨fr, hf, hr⟩ | ⟨hf, hr⟩
  · cases hr.symm.trans h
    simp [encodeReply, hf]
  · cases hr.symm.trans h
    simp [encodeReply, hf]

/-- Settles O15: what either state's replies gain is the reply of the command. -/
theorem encodeIsDeterministic : Obligations.EncodeIsDeterministic := by
  intro mode temp fan s s' t t' h h'
  rw [replies_of_exec_encode h, replies_of_exec_encode h', List.drop_left, List.drop_left]
  exact ⟨rfl, rfl⟩

end Sys2Proof.Proofs
end

section
/-! PROOF of the family 60_exceptions: the transmitter's InvalidArgument (spec/60_exceptions.md R117). -/

namespace Sys2Proof.Proofs

open Sys2Proof.Machine Sys2Proof.Safety Sys2Proof.Laws

/-- One OTHER symbol, wherever it stands, makes validation reject the frame (R82). -/
theorem hasOther_of_getElem? {f : List Symbol} {p c : Nat} (h : f[p]? = some (.other c)) : hasOther f = true :=
  List.any_eq_true.2 ⟨.other c, List.mem_of_getElem? h, rfl⟩

/-- What acceptance does with a frame that fails validation: latch, then the transmitter's InvalidArgument (R82, R117). -/
theorem accept_of_hasOther {f : List Symbol} (h : hasOther f = true) (op : Op) (s : State) :
    s.accept op f = (s.latch f).raise .transmitterInvalidArgument (some op) := if_pos h

/-- A ready block accepts the frame of a TRANSMIT that is within MAX_FRAME_LEN (R80, R81). -/
theorem exec_transmit_of_ready {s : State} {f : List Symbol} (hb : s.busy = false) (hlen : withinBound s f.length) :
    exec (.transmit f) s = .next (s.accept .transmit f) :=
  requestTransmit_of_ready hb ((frameFits_iff s f).2 hlen) .transmit

/-- A ready block answers a TRANSMIT of a frame that fails validation with the transmitter's InvalidArgument at once. -/
theorem exec_transmit_of_hasOther {s : State} {f : List Symbol} (hb : s.busy = false) (hlen : withinBound s f.length)
    (h : hasOther f = true) :
    exec (.transmit f) s = .next ((s.latch f).raise .transmitterInvalidArgument (some .transmit)) := by
  rw [exec_transmit_of_ready hb hlen, accept_of_hasOther h]

/-- After a transmitter's InvalidArgument the block is ready (R121). -/
theorem busy_raise_transmitter (op : Option Op) (s : State) :
    (s.raise .transmitterInvalidArgument op).busy = false :=
  (busy_eq_false_iff _).2 (.inr (.inr (raise_transmitter_tx op s)))

/-- Settles O19: the OTHER symbol fails validation, so the state is the one `raise` leaves of the latched frame; it is ready, and
in a ready state no position of the kept frame is readable (spec/10_state.md R18). -/
theorem transmitRejectsOtherSymbols : Obligations.TransmitRejectsOtherSymbols := by
  intro frame p c s hb hlen hp
  exact ⟨_, exec_transmit_of_hasOther hb hlen (hasOther_of_getElem? hp), rfl, rfl,
    memRead_of_ready (busy_raise_transmitter _ _)⟩

end Sys2Proof.Proofs
end

section
/-! PROOF of the family other, the encoded objects: the decoder against the encoder (spec/30_encoding.md R45, R50, R54), which
operands ENCODE rejects (spec/40_encoder.md R66), and what a frame says of its command (R47, R49). -/

namespace Sys2Proof.Proofs

open Sys2Proof.Machine Sys2Proof.Safety Sys2Proof.Laws

/-! ### Decoding what was encoded -/

/-- A number outside 0..3 is kept as it is presented (spec/10_state.md R11). -/
theorem ofCode_of_outside {n : Int} (h : n < 0 ∨ 3 < n) : ModeArg.ofCode n = .other n := by
  simp only [ModeArg.ofCode]
  rw [if_neg (by omega), if_neg (by omega), if_neg (by omega), if_neg (by omega)]

theorem ofCode_code {mode : ModeArg} (h : mode.WellFormed = true) : ModeArg.ofCode mode.code = mode := by
  cases mode with
  | named m => cases m <;> rfl
  | other n => exact ofCode_of_outside (of_decide_eq_true h)

/-- The re-parse of a FRAME72's bits gives the FRAME72 back: each field fits its segment. -/
theorem frame72OfFields_parse (t f : BitVec 4) (p : BitVec 1) (m : BitVec 2) (c : BitVec 4) (k : BitVec 2) :
    frame72OfFields (parseFrame (frame72Bits t f p m c k)) = .frame72 t f p m c k := by
  have hread {n : Nat} (x : BitVec n) : BitVec.ofNat n (bitsVal (be n x.toNat)) = x := by
    rw [bitsVal_be_of_lt x.isLt, BitVec.ofNat_toNat, BitVec.setWidth_eq]
  simp only [frame72Bits, parseFrame_assembleFrame, frame72OfFields, hread]

/-- The bits of a FRAME72 meet every check of the decoder, whatever its checksums. -/
theorem decodeFrame_frame72Bits (t f : BitVec 4) (p : BitVec 1) (m : BitVec 2) (c : BitVec 4) (k : BitVec 2) :
    decodeFrame (frame72Bits t f p m c k) = .ok (.frame72 t f p m c k) := by
  have hlen : (frame72Bits t f p m c k).length = Config.frameBits := assembleFrame_length ..
  have hheader : (frame72Bits t f p m c k).take Config.headerBits = Config.vendorHeader := assembleFrame_header ..
  have hpadding : framePadding (frame72Bits t f p m c k) = zeroBits 14 := assembleFrame_padding ..
  have hpower : (parseFrame (frame72Bits t f p m c k)).powerBitRepeat =
      (parseFrame (frame72Bits t f p m c k)).powerBit := by
    rw [frame72Bits, parseFrame_assembleFrame]
  simp only [decodeFrame, hlen, hheader, hpadding, hpower, ne_eq, not_true_eq_false, if_false, frame72OfFields_parse]

/-- Settles O1: the mode number of a well-formed mode operand codes that mode, the fields of a FRAME72 are read back from their
segments, and the other operands and objects are carried as they are. -/
theorem decodeOfEncode : Obligations.DecodeOfEncode := by
  intro i h
  cases i with
  | encode mode temp fan => exact congrArg (fun x => Except.ok (Instr.encode x temp fan)) (ofCode_code h)
  | send mode temp fan => exact congrArg (fun x => Except.ok (Instr.send x temp fan)) (ofCode_code h)
  | frame72 t f p m c k => exact decodeFrame_frame72Bits t f p m c k
  | transmit frame => rfl
  | hdr => rfl
  | bit0 => rfl
  | bit1 => rfl
  | endMarker => rfl

/-! ### A frame object is the frame it decodes to -/

theorem bitsVal_lt (s : Bits) : bitsVal s < 2 ^ s.length := by
  induction s with
  | nil => exact Nat.one_pos
  | cons b s ih =>
    have hb := Bool.toNat_le b
    have hmul : b.toNat * 2 ^ s.length ≤ 1 * 2 ^ s.length := Nat.mul_le_mul_right _ hb
    rw [bitsVal, List.length_cons, Nat.pow_succ]
    omega

/-- A bit group of width `n` depends on the low `n` bits only. -/
theorem be_congr {n v w : Nat} (h : ∀ i < n, v.testBit i = w.testBit i) : be n v = be n w := by
  induction n with
  | zero => rfl
  | succ n ih =>
    rw [be, be, h n (Nat.lt_succ_self n), ih fun i hi => h i (Nat.lt_succ_of_lt hi)]

/-- A bit sequence is the big-endian bit group of its number (spec/00_scope.md R6). -/
theorem be_bitsVal (s : Bits) : be s.length (bitsVal s) = s := by
  induction s with
  | nil => rfl
  | cons b s ih =>
    have hbit (i : Nat) := Nat.testBit_two_pow_mul_add b.toNat (bitsVal_lt s) i
    have htop : (2 ^ s.length * b.toNat + bitsVal s).testBit s.length = b := by
      rw [hbit, if_neg (Nat.lt_irrefl _), Nat.sub_self]; cases b <;> rfl
    have hlow : be s.length (2 ^ s.length * b.toNat + bitsVal s) = be s.length (bitsVal s) :=
      be_congr fun i hi => by rw [hbit, if_pos hi]
    rw [bitsVal, Nat.mul_comm, List.length_cons, be, htop, hlow, ih]

theorem be_bitsVal_of_length {s : Bits} {n : Nat} (h : s.length = n) : be n (bitsVal s) = s := by
  rw [← h, be_bitsVal]

theorem payloadField_length {s : Bits} (hs : s.length = 72) {off n : Nat} (h : off + n ≤ 32) :
    (payloadField s off n).length = n := by
  rw [payloadField, List.length_take, List.length_drop, hs, show Config.headerBits = 40 from rfl]
  omega

/-- What follows offset `off` of the payload is the field there and what follows the field. -/
theorem drop_header_eq_payloadField_append (s : Bits) (off n : Nat) :
    s.drop (Config.headerBits + off) = payloadField s off n ++ s.drop (Config.headerBits + (off + n)) := by
  rw [payloadField, ← Nat.add_assoc, ← List.drop_drop (i := n), List.take_append_drop]

/-- A frame of 72 bits is its header and the twelve fields of its payload (R45). -/
theorem eq_header_append_fields {s : Bits} (h : s.length = 72) :
    s = s.take Config.headerBits
      ++ (payloadField s 0 4 ++ (payloadField s 4 4 ++ (payloadField s 8 4 ++ (payloadField s 12 1
      ++ (payloadField s 13 1 ++ (payloadField s 14 2 ++ (payloadField s 16 8 ++ (payloadField s 24 4
      ++ (payloadField s 28 1 ++ (payloadField s 29 1 ++ payloadField s 30 2)))))))))) := by
  have hend : payloadField s 30 2 = s.drop (Config.headerBits + 30) := by
    have hnil : s.drop (Config.headerBits + (30 + 2)) = [] := List.drop_eq_nil_of_le (Nat.le_of_eq h)
    rw [drop_header_eq_payloadField_append s 30 2, hnil, List.append_nil]
  have hnext := drop_header_eq_payloadField_append s
  rw [hend, ← hnext 29 1, ← hnext 28 1, ← hnext 24 4, ← hnext 16 8, ← hnext 14 2, ← hnext 13 1, ← hnext 12 1, ← hnext 8 4,
    ← hnext 4 4, ← hnext 0 4, Nat.add_zero, List.take_append_drop]

/-- Zero padding is zero in each of its four places. -/
theorem padding_fields_of_zero {s : Bits} (hs : s.length = 72) (h : framePadding s = zeroBits 14) :
    payloadField s 4 4 = zeroBits 4 ∧ payloadField s 12 1 = zeroBits 1 ∧ payloadField s 16 8 = zeroBits 8 ∧
      payloadField s 28 1 = zeroBits 1 := by
  have hlen {off n : Nat} (h : off + n ≤ 32) : (payloadField s off n).length = (zeroBits n).length := by
    rw [payloadField_length hs h, zeroBits, List.length_replicate]
  obtain ⟨h123, h4⟩ := List.append_inj' (t₂ := zeroBits 1) (s₂ := zeroBits 4 ++ zeroBits 1 ++ zeroBits 8) h
    (hlen (by decide))
  obtain ⟨h12, h3⟩ := List.append_inj' h123 (hlen (by decide))
  obtain ⟨h1, h2⟩ := List.append_inj' h12 (hlen (by decide))
  exact ⟨h1, h2, h3, h4⟩

/-- A bit sequence that meets the pattern of R45 is assembled from the fields the re-parse reads. -/
theorem assembleFrame_of_parse {s : Bits} (hlen : s.length = 72) (hheader : s.take Config.headerBits = Config.vendorHeader)
    (hpadding : framePadding s = zeroBits 14) (hpower : (parseFrame s).powerBitRepeat = (parseFrame s).powerBit) :
    assembleFrame (parseFrame s).temperatureCode (parseFrame s).fanCode (parseFrame s).powerBit (parseFrame s).modeCode
      (parseFrame s).checksum1 (parseFrame s).checksum2 = s := by
  obtain ⟨hp1, hp2, hp3, hp4⟩ := padding_fields_of_zero hlen hpadding
  have hfield {off n : Nat} (h : off + n ≤ 32) : be n (bitsVal (payloadField s off n)) = payloadField s off n :=
    be_bitsVal_of_length (payloadField_length hlen h)
  have hrepeat : be 1 (parseFrame s).powerBit = payloadField s 29 1 := by
    rw [← hpower]; exact hfield (by decide)
  have hfirst : be 1 (parseFrame s).powerBit = payloadField s 13 1 := hfield (by decide)
  conv_rhs => rw [eq_header_append_fields hlen]
  rw [hheader, hp1, hp2, hp3, hp4, ← hrepeat, ← hfirst, ← hfield (off := 0) (n := 4) (by decide),
    ← hfield (off := 8) (n := 4) (by decide), ← hfield (off := 14) (n := 2) (by decide),
    ← hfield (off := 24) (n := 4) (by decide), ← hfield (off := 30) (n := 2) (by decide)]
  simp only [assembleFrame, parseFrame, List.append_assoc]

/-- What the decoder has checked of a frame object it accepts (R45). -/
theorem decodeFrame_eq_ok {s : Bits} {i : Instr} (h : decodeFrame s = .ok i) :
    s.length = 72 ∧ s.take Config.headerBits = Config.vendorHeader ∧ framePadding s = zeroBits 14 ∧
      (parseFrame s).powerBitRepeat = (parseFrame s).powerBit ∧ i = frame72OfFields (parseFrame s) := by
  unfold decodeFrame at h
  split_ifs at h with hlen hheader hpadding hpower
  exact ⟨of_not_not hlen, of_not_not hheader, of_not_not hpadding, of_not_not hpower, (Except.ok.inj h).symm⟩

/-- A frame object that decodes is the bits of the FRAME72 it decodes to. -/
theorem frame72Bits_of_decodeFrame {s : Bits} {i : Instr} (h : decodeFrame s = .ok i) :
    ∃ t f p m c k, i = .frame72 t f p m c k ∧ frame72Bits t f p m c k = s := by
  obtain ⟨hlen, hheader, hpadding, hpower, hi⟩ := decodeFrame_eq_ok h
  have hlt {off n : Nat} (h : off + n ≤ 32) : bitsVal (payloadField s off n) < 2 ^ n := by
    have := bitsVal_lt (payloadField s off n)
    rwa [payloadField_length hlen h] at this
  have hnat {off n : Nat} (h : off + n ≤ 32) :
      (BitVec.ofNat n (bitsVal (payloadField s off n))).toNat = bitsVal (payloadField s off n) := by
    rw [BitVec.toNat_ofNat, Nat.mod_eq_of_lt (hlt h)]
  refine ⟨_, _, _, _, _, _, hi, ?_⟩
  rw [frame72Bits, parseFrame, hnat (by decide), hnat (by decide), hnat (by decide), hnat (by decide), hnat (by decide),
    hnat (by decide)]
  exact assembleFrame_of_parse hlen hheader hpadding hpower

/-- Settles O2: every bit of an accepted frame object is in a field that is read, or was checked. -/
theorem frameDecodesOnlyToItself : Obligations.FrameDecodesOnlyToItself :=
  fun _ _ h => frame72Bits_of_decodeFrame h

/-- Settles O3: eight closed evaluations of the decoder. -/
theorem specWordsDecode : Obligations.SpecWordsDecode := by
  unfold Obligations.SpecWordsDecode
  decide

/-! ### The diagnostic string -/

theorem symbolOfChar_bit (b : Bit) : symbolOfChar (if b then '1' else '0') = symbolOfBit b := by
  cases b <;> rfl

/-- Settles O57: the characters of the string are the bits' in order, and each converts back to its symbol. -/
theorem diagnosticStringConvertsBack : Obligations.DiagnosticStringConvertsBack := by
  intro s
  refine ⟨?_, ?_⟩
  · simp only [symbolsOfString, diagnosticString, String.toList_ofList, List.map_map]
    exact List.map_congr_left fun b _ => symbolOfChar_bit b
  · rw [diagnosticString, String.length_ofList, List.length_map]

/-! ### Valid and out-of-range commands -/

/-- A mode operand gives a mode, by name or by its number, or is a number outside 0..3 (R11, R66). -/
theorem modeArg_cases (mode : ModeArg) :
    (∃ m, mode = .named m ∨ ∃ n, mode = .other n ∧ ModeArg.ofCode n = .named m) ∨
      ∃ n, mode = .other n ∧ (n < 0 ∨ 3 < n) := by
  cases mode with
  | named m => exact .inl ⟨m, .inl rfl⟩
  | other n =>
    have hn : n = 0 ∨ n = 1 ∨ n = 2 ∨ n = 3 ∨ (n < 0 ∨ 3 < n) := by omega
    rcases hn with rfl | rfl | rfl | rfl | hn
    · exact .inl ⟨.auto, .inr ⟨_, rfl, rfl⟩⟩
    · exact .inl ⟨.cool, .inr ⟨_, rfl, rfl⟩⟩
    · exact .inl ⟨.heat, .inr ⟨_, rfl, rfl⟩⟩
    · exact .inl ⟨.off, .inr ⟨_, rfl, rfl⟩⟩
    · exact .inr ⟨n, rfl, hn⟩

theorem valid_or_invalid (mode : ModeArg) (temp fan : Int) :
    (∃ m, validCommand mode m temp fan) ∨ invalidCommand mode temp fan := by
  by_cases hr : temp < 17 ∨ 30 < temp ∨ fan < 0 ∨ 100 < fan
  · exact .inr (.inr hr)
  · rcases modeArg_cases mode with ⟨m, hm⟩ | hm
    · exact .inl ⟨m, hm, by omega⟩
    · exact .inr (.inl hm)

/-- The encoder tells the two apart: a valid command has a frame, an out-of-range one none. -/
theorem not_invalid_of_valid {mode : ModeArg} {m : Mode} {temp fan : Int} (h : validCommand mode m temp fan) :
    ¬ invalidCommand mode temp fan := by
  intro hi
  have := (encodeCommand_of_valid h).symm.trans (encodeCommand_of_invalid hi)
  cases this

/-- Settles O6: an out-of-range command has no frame, so ENCODE raises the encoder's failure; the partition is the case split
over the mode operand and the two ranges. -/
theorem encodeRejectsOutOfRange : Obligations.EncodeRejectsOutOfRange := by
  refine ⟨?_, valid_or_invalid, fun _ _ _ _ => not_invalid_of_valid⟩
  intro mode temp fan s h
  rw [exec_encode, execEncode, encodeCommand_of_invalid h]
  rfl

/-! ### What a frame says of its command -/

/-- An encoded frame is well formed: its codes fit their segments, so the re-parse reads the codes the checksums are made of. -/
theorem wellFormedFrame72_encodedFrame (m : Mode) {t f : Int} (ht : t ≤ 30) (hf : f ≤ 100) :
    wellFormedFrame72 (encodedFrame m t f) := by
  have htemp : bitsVal (be 4 (temperatureCode t)) = temperatureCode t :=
    bitsVal_be_of_lt (Nat.lt_of_le_of_lt (temperatureCode_le ht) (by decide))
  have hfan : bitsVal (be 4 (fanCode f)) = fanCode f :=
    bitsVal_be_of_lt (Nat.lt_of_le_of_lt (fanCode_le hf) (by decide))
  have hsum : bitsVal (be 4 (checksum1 (temperatureCode t) (fanCode f))) = checksum1 (temperatureCode t) (fanCode f) :=
    bitsVal_be_of_lt (checksum1_lt _ _)
  have hmode : bitsVal (be 2 (checksum2 (modeCode m))) = bitsVal (be 2 (modeCode m)) ^^^ 1 := by cases m <;> decide
  refine ⟨encodedFrame_length m t f, assembleFrame_header .., assembleFrame_padding .., ?_⟩
  rw [encodedFrame, parseFrame_assembleFrame]
  refine ⟨rfl, ?_, hmode⟩
  show bitsVal (be 4 (checksum1 (temperatureCode t) (fanCode f))) =
    (bitsVal (be 4 (temperatureCode t)) + bitsVal (be 4 (fanCode f))) % 16
  rw [hsum, htemp, hfan, checksum1]

/-- Settles O14: the reply's frame is the encoded frame, which is well formed. -/
theorem encodedFramesAreWellFormed : Obligations.EncodedFramesAreWellFormed := by
  intro mode m temp fan s h
  have ⟨_, _, htemp, _, hfan⟩ := h
  exact ⟨_, encodeReplies_encodedFrame h s, wellFormedFrame72_encodedFrame m htemp hfan⟩

/-- The mode code and the power bit together tell the four modes apart: OFF has HEAT's code but not its power bit (R69, R70). -/
theorem mode_eq_of_codes {m m' : Mode} (hcode : modeCode m = modeCode m') (hpower : decide (m = .off) = decide (m' = .off)) :
    m = m' := by
  revert hcode hpower
  cases m <;> cases m' <;> decide

/-- Settles O17: equal frames agree in the temperature, fan, mode and power segments, and these give the command back. -/
theorem framesTellCommandsApart : Obligations.FramesTellCommandsApart := by
  intro mode mode' m m' temp temp' fan fan' h h' heq
  obtain ⟨-, hmin, hmax, -, hfan⟩ := h
  obtain ⟨-, hmin', hmax', -, hfan'⟩ := h'
  have htemp : temperatureCode temp = temperatureCode temp' := by
    rw [← encodedFrame_temperature m fan hmax, heq, encodedFrame_temperature m' fan' hmax']
  have hfancode : fanCode fan = fanCode fan' := by
    rw [← encodedFrame_fan m temp hfan, heq, encodedFrame_fan m' temp' hfan']
  have hcode : modeCode m = modeCode m' := by
    rw [← encodedFrame_mode m temp fan, heq, encodedFrame_mode]
  have hpower : decide (m = .off) = decide (m' = .off) :=
    Option.some.inj (by rw [← encodedFrame_power_first m temp fan, heq, encodedFrame_power_first])
  have hsub : temp - 17 = temp' - 17 := by
    rw [← temperatureCode_eq_sub hmin, ← temperatureCode_eq_sub hmin', htemp]
  exact ⟨mode_eq_of_codes hcode hpower, by omega, hfancode⟩

end Sys2Proof.Proofs
end

section
/-! PROOF of the family other, the requests: TRANSMIT, the hand-over of frames and SEND in a ready and in a busy block
(spec/41_transmitter.md R80 to R82, spec/42_pipeline.md R105, spec/10_state.md R17). -/

namespace Sys2Proof.Proofs

open Sys2Proof.Machine Sys2Proof.Safety Sys2Proof.Laws

/-- The meaning of SEND is the pipeline's operation. -/
theorem exec_send (mode : ModeArg) (temp fan : Int) (s : State) :
    exec (.send mode temp fan) s = execSend mode temp fan s := rfl

theorem symbolsOfBits_length (bits : Bits) : (symbolsOfBits bits).length = bits.length := List.length_map _

theorem symbolsOfBits_frame72Bits_length (t f : BitVec 4) (p : BitVec 1) (m : BitVec 2) (c : BitVec 4) (k : BitVec 2) :
    (symbolsOfBits (frame72Bits t f p m c k)).length = 72 := by
  rw [symbolsOfBits_length, frame72Bits, assembleFrame_length]

theorem symbolsOfBits_encodedFrame_length (m : Mode) (t f : Int) : (symbolsOfBits (encodedFrame m t f)).length = 72 := by
  rw [symbolsOfBits_length, encodedFrame_length]

/-- What acceptance does with a validated frame: latch it and enter Run(0) (R81, R82). -/
theorem accept_of_not_hasOther {f : List Symbol} (h : hasOther f = false) (op : Op) (s : State) :
    s.accept op f = (s.latch f).start op := by
  rw [State.accept, h]; rfl

theorem exec_transmit_of_valid {s : State} {f : List Symbol} (hb : s.busy = false) (hlen : withinBound s f.length)
    (h : hasOther f = false) : exec (.transmit f) s = .next ((s.latch f).start .transmit) := by
  rw [exec_transmit_of_ready hb hlen, accept_of_not_hasOther h]

/-- Settles O18: a ready TRANSMIT accepts the frame, and a validated frame is latched and started. -/
theorem transmitAcceptsWhenReady : Obligations.TransmitAcceptsWhenReady :=
  fun _ _ hb hlen h => exec_transmit_of_valid hb hlen h

/-- A presented frame is handed to TRANSMIT with its bits as symbols (log entry 2). -/
theorem step_of_frame {s : State} {bits : Bits} {rest : List Input} (h : s.inbox = .frame bits :: rest) :
    step s = exec (.transmit (symbolsOfBits bits)) { s with inbox := rest } := by
  simp only [step, h, State.runFrame, State.popInput, List.tail_cons]

/-- A presented request is taken from the inbox and decoded. -/
theorem step_of_request {s : State} {r : Request} {rest : List Input} (h : s.inbox = .request r :: rest) :
    step s = State.runRequest r { s with inbox := rest } := by
  simp only [step, h, State.popInput, List.tail_cons]

/-- A presented reset is taken from the inbox and resets the block. -/
theorem step_of_reset {s : State} {rest : List Input} (h : s.inbox = .reset :: rest) :
    step s = .next (State.platformReset { s with inbox := rest }) := by
  simp only [step, h, State.popInput, List.tail_cons]

/-- Where nothing is presented the block makes its own move. -/
theorem step_of_quiet {s : State} (h : quiet s) : step s = s.popInput.sequence := by
  rcases h with h | ⟨rest, h⟩
  · simp only [step, h, popInput_of_nil h]
  · simp only [step, h]

/-- Settles O20: bits are never OTHER, so a frame of bits is accepted whatever they are. -/
theorem frameHandOverTransmits : Obligations.FrameHandOverTransmits := by
  refine ⟨?_, ?_⟩
  · intro t f p m c k s hb hlen
    rw [exec_frame72, exec_transmit_of_valid hb (by rwa [symbolsOfBits_frame72Bits_length]) (hasOther_symbolsOfBits _)]
    rfl
  · intro bits s rest hi hb hlen
    rw [step_of_frame hi,
      exec_transmit_of_valid (s := { s with inbox := rest }) hb (by rwa [symbolsOfBits_length]) (hasOther_symbolsOfBits _)]
    rfl

theorem frameFits_eq_false {s : State} {n : Nat} {f : List Symbol} (hn : s.maxFrameLen = some n) (h : n < f.length) :
    s.frameFits f = false := by
  rw [Bool.eq_false_iff, Ne, frameFits_iff]
  exact fun hfit => Nat.not_le_of_lt h (hfit n hn)

/-- A ready SEND of a valid command presents the encoder's frame to the transmitter, after the snapshot (R105, R107). -/
theorem exec_send_of_valid {mode : ModeArg} {m : Mode} {temp fan : Int} {s : State} (h : validCommand mode m temp fan)
    (hb : s.busy = false) :
    exec (.send mode temp fan) s =
      (s.snapshot ⟨mode, temp, fan⟩).requestTransmit .send (symbolsOfBits (encodedFrame m temp fan)) := by
  rw [exec_send, execSend, hb, encodeCommand_of_valid h]; rfl

/-- Settles O21: a frame longer than the bound does not fit, and a FRAME72 and the frame of a valid SEND have 72 symbols. -/
theorem tooLongFramesRefused : Obligations.TooLongFramesRefused := by
  intro s n hb hn
  have hlong {f : List Symbol} (h : n < f.length) : exec (.transmit f) s = .refused .frameTooLong :=
    requestTransmit_of_too_long hb (frameFits_eq_false hn h) .transmit
  refine ⟨fun _ => hlong, ?_, ?_⟩
  · intro h72 t f p m c k
    rw [exec_frame72]
    exact hlong (by rwa [symbolsOfBits_frame72Bits_length])
  · intro h72 mode m temp fan h
    rw [exec_send_of_valid h hb]
    refine requestTransmit_of_too_long (s := s.snapshot ⟨mode, temp, fan⟩) hb (frameFits_eq_false (n := n) hn ?_) .send
    rwa [symbolsOfBits_encodedFrame_length]

/-- Settles O22: the encoder's frame of 72 bits fits and holds no OTHER, so the transmitter accepts it. -/
theorem sendEncodesAndStarts : Obligations.SendEncodesAndStarts := by
  intro mode m temp fan s h hb hlen
  have hfits : (s.snapshot ⟨mode, temp, fan⟩).frameFits (symbolsOfBits (encodedFrame m temp fan)) = true :=
    (frameFits_iff _ _).2 (by rwa [symbolsOfBits_encodedFrame_length])
  rw [exec_send_of_valid h hb, requestTransmit_of_ready (s := s.snapshot ⟨mode, temp, fan⟩) hb hfits,
    accept_of_not_hasOther (hasOther_symbolsOfBits _)]
  rfl

/-- Settles O23: an out-of-range command has no frame, so SEND ends with the encoder's failure. -/
theorem sendRejectsOutOfRange : Obligations.SendRejectsOutOfRange := by
  intro mode temp fan s h hb
  rw [exec_send, execSend, hb, encodeCommand_of_invalid h]
  rfl

/-- Settles O24: the readiness test comes first in all three. -/
theorem busyRequestsLeaveOnlyAMark : Obligations.BusyRequestsLeaveOnlyAMark := by
  intro s hb
  refine ⟨fun f => requestTransmit_of_busy hb .transmit f, ?_, fun _ _ _ _ _ _ => requestTransmit_of_busy hb .transmit _⟩
  intro mode temp fan
  rw [exec_send, execSend, hb]
  rfl

/-! ### The terminal states -/

/-- Acceptance writes TX whatever it was. -/
theorem accept_tx_idle (op : Op) (f : List Symbol) (s : State) : s.accept op f = State.accept op f { s with tx := .idle } := by
  rcases accept_cases op f s with ⟨h, hs⟩ | ⟨h, hs⟩
  · rw [hs, accept_of_hasOther h]; rfl
  · rw [hs, accept_of_not_hasOther h]; rfl

/-- A frame presented to a ready transmitter is answered as it is in Idle. -/
theorem requestTransmit_tx_idle {s : State} (hb : s.busy = false) (op : Op) (f : List Symbol) :
    s.requestTransmit op f = State.requestTransmit op f { s with tx := .idle } := by
  cases hfit : s.frameFits f with
  | true =>
    rw [requestTransmit_of_ready hb hfit, requestTransmit_of_ready (s := { s with tx := .idle }) rfl hfit, accept_tx_idle]
  | false =>
    rw [requestTransmit_of_too_long hb hfit, requestTransmit_of_too_long (s := { s with tx := .idle }) rfl hfit]

/-- Settles O25: the three instructions present a frame to the transmitter, whose answer in a ready state does not depend on TX. -/
theorem terminalStatesAcceptAsIdle : Obligations.TerminalStatesAcceptAsIdle := by
  intro s i hb hi
  rcases hi with ⟨frame, rfl⟩ | ⟨mode, m, temp, fan, h, rfl⟩ | ⟨t, f, p, m, c, k, rfl⟩
  · exact requestTransmit_tx_idle hb .transmit frame
  · rw [exec_send_of_valid h hb, exec_send_of_valid (s := { s with tx := .idle }) h rfl]
    exact requestTransmit_tx_idle (s := s.snapshot ⟨mode, temp, fan⟩) hb .send _
  · exact requestTransmit_tx_idle hb .transmit _

end Sys2Proof.Proofs
end

section
/-! PROOF of the family other, the schedule: two copies of the pulse train are the sequencer's table (spec/10_state.md R16,
spec/41_transmitter.md R83, R84), and the laws of section 7 (R93 to R96). -/

namespace Sys2Proof.Proofs

open Sys2Proof.Machine Sys2Proof.Safety Sys2Proof.Laws

/-! ### The pulse train as elements -/

/-- The pulse elements of one frame in order (R83): `pulseTrain` before durations are taken. -/
def frameElements (f : List Symbol) : List Element := .hdr :: (f.map bitElement ++ [.endMarker])

theorem pulseTrain_eq_map (f : List Symbol) : pulseTrain f = (frameElements f).map pairOf := by
  simp [pulseTrain, frameElements]

theorem frameElements_length (f : List Symbol) : (frameElements f).length = f.length + 2 := by
  simp [frameElements]

/-- The half-intervals of a list of elements: the mark and the space of each (R84). -/
def elementHalves (es : List Element) : List Half := es.flatMap fun e => [halfOfElement e .mark, halfOfElement e .space]

theorem frameHalves_eq (f : List Symbol) : frameHalves f = elementHalves (frameElements f) := by
  rw [frameHalves, pulseTrain_eq_map, List.flatMap_map]; rfl

theorem schedule_eq (f : List Symbol) : schedule f = frameHalves f ++ frameHalves f := by
  simp [schedule, Config.frameRepeats, List.replicate]

theorem elementHalves_cons (e : Element) (es : List Element) :
    elementHalves (e :: es) = halfOfElement e .mark :: halfOfElement e .space :: elementHalves es := rfl

theorem elementHalves_length (es : List Element) : (elementHalves es).length = 2 * es.length := by
  induction es with
  | nil => rfl
  | cons e es ih => rw [elementHalves_cons, List.length_cons, List.length_cons, List.length_cons, ih]; omega

theorem frameHalves_length (f : List Symbol) : (frameHalves f).length = 2 * f.length + 4 := by
  rw [frameHalves_eq, elementHalves_length, frameElements_length]; omega

theorem schedule_length (f : List Symbol) : (schedule f).length = 4 * f.length + 8 := by
  rw [schedule_eq, List.length_append, frameHalves_length]; omega

/-- The half-interval at a position is half of the element there, the mark first. -/
theorem elementHalves_getElem? (es : List Element) (j : Nat) :
    (elementHalves es)[j]? = es[j / 2]?.map fun e => halfOfElement e (halfAt j) := by
  induction es generalizing j with
  | nil => rfl
  | cons e es ih =>
    match j with
    | 0 => rfl
    | 1 => rfl
    | j + 2 =>
      have hdiv : (j + 2) / 2 = j / 2 + 1 := by omega
      have hhalf : halfAt (j + 2) = halfAt j := by rw [halfAt, Nat.add_mod_right, halfAt]
      rw [elementHalves_cons, List.getElem?_cons_succ, List.getElem?_cons_succ, ih, hdiv, List.getElem?_cons_succ, hhalf]

/-! ### The table -/

theorem frameElements_getElem?_header {f : List Symbol} {j : Nat} (h : j < 2) : (frameElements f)[j / 2]? = some .hdr := by
  rw [Nat.div_eq_of_lt h]; rfl

theorem frameElements_getElem?_bits {f : List Symbol} {j : Nat} {y : Symbol} (h : 2 ≤ j) (hy : f[(j - 2) / 2]? = some y) :
    (frameElements f)[j / 2]? = some (bitElement y) := by
  have hj : j / 2 = (j - 2) / 2 + 1 := by omega
  obtain ⟨hlt, -⟩ := List.getElem?_eq_some_iff.1 hy
  rw [hj, frameElements, List.getElem?_cons_succ, List.getElem?_append_left (by rwa [List.length_map]), List.getElem?_map, hy]
  rfl

theorem frameElements_getElem?_end {f : List Symbol} {j : Nat} (h : 2 * f.length + 2 ≤ j) (h' : j < 2 * f.length + 4) :
    (frameElements f)[j / 2]? = some .endMarker := by
  have hj : j / 2 = f.length + 1 := by omega
  rw [hj, frameElements, List.getElem?_cons_succ]
  simp

/-- The table of R16 gives, at `J`, the element of the pulse train there. -/
theorem elementAt_eq_frameElements {f : List Symbol} {k : Nat} (hf : hasOther f = false) (hk : k < 4 * f.length + 8) :
    elementAt f k = (frameElements f)[k % (2 * f.length + 4) / 2]? := by
  have hmod := Nat.mod_lt k (Nat.succ_pos (2 * f.length + 3))
  rcases phaseAt_cases f.length k with ⟨h, -⟩ | ⟨h, h', -⟩ | ⟨h, -⟩
  · rw [elementAt_header hk h, frameElements_getElem?_header h]
  · have hy := List.getElem?_eq_getElem (l := f) (i := (k % (2 * f.length + 4) - 2) / 2) (by omega)
    rw [elementAt_bits hk h hy, frameElements_getElem?_bits h hy,
      elementOfSymbol_of_not_other (not_other_of_getElem? hf hy)]
  · rw [elementAt_end hk h, frameElements_getElem?_end h hmod]

/-- Both copies of the train are read at `J = K mod PER`. -/
theorem schedule_getElem?_mod {f : List Symbol} {k : Nat} (hk : k < 4 * f.length + 8) :
    (schedule f)[k]? = (frameHalves f)[k % (2 * f.length + 4)]? := by
  rw [schedule_eq, mod_perFrame hk]
  split
  · rw [List.getElem?_append_left (by rwa [frameHalves_length])]
  · rw [List.getElem?_append_right (by rw [frameHalves_length]; omega), frameHalves_length]

theorem elementAt_of_le {f : List Symbol} {k : Nat} (h : 4 * f.length + 8 ≤ k) : elementAt f k = none := by
  rw [elementAt, perRequest_eq, if_neg (Nat.not_lt.2 h)]

/-- PER is even: `J` has the parity of `K`. -/
theorem halfAt_mod (len k : Nat) : halfAt (k % (2 * len + 4)) = halfAt k := by
  have hdvd : 2 ∣ 2 * len + 4 := ⟨len + 2, by omega⟩
  rw [halfAt, Nat.mod_mod_of_dvd k hdvd, halfAt]

theorem schedule_getElem?_eq {f : List Symbol} (hf : hasOther f = false) (k : Nat) :
    (schedule f)[k]? = scheduleAt f k := by
  rw [scheduleAt]
  by_cases hk : k < 4 * f.length + 8
  · rw [schedule_getElem?_mod hk, frameHalves_eq, elementHalves_getElem?, ← elementAt_eq_frameElements hf hk, halfAt_mod]
  · rw [elementAt_of_le (Nat.not_lt.1 hk), List.getElem?_eq_none (by rw [schedule_length]; omega)]
    rfl

/-- Settles O26: inside the schedule both sides are the half, named by the parity of K, of the element at `J`; past it both give
nothing. -/
theorem scheduleAgreesWithPositions : Obligations.ScheduleAgreesWithPositions :=
  fun _ k hf => schedule_getElem?_eq hf k

/-- The half-interval of a selected element, in the schedule. -/
theorem schedule_getElem?_of_elementAt {f : List Symbol} {k : Nat} {e : Element} (hf : hasOther f = false)
    (he : elementAt f k = some e) : (schedule f)[k]? = some (halfOfElement e (halfAt k)) := by
  rw [schedule_getElem?_eq hf, scheduleAt, he]; rfl

/-! ### Laws of the schedule -/

theorem elementHalves_marks (es : List Element) :
    ((elementHalves es).filter fun h => h.level = .on).length = es.length := by
  induction es with
  | nil => rfl
  | cons e es ih =>
    rw [elementHalves_cons, List.filter_cons_of_pos (by rfl), List.filter_cons_of_neg (by simp [halfOfElement]),
      List.length_cons, ih, List.length_cons]

/-- Settles O27: every element has one mark and one space, and a frame of L symbols has L + 2 elements. -/
theorem pulseCount : Obligations.PulseCount := by
  intro f
  refine ⟨?_, ?_⟩
  · rw [schedule_length]; omega
  · rw [schedule_eq, List.filter_append, List.length_append, frameHalves_eq, elementHalves_marks, frameElements_length]
    omega

theorem totalMicroseconds_append (a b : List Half) :
    totalMicroseconds (a ++ b) = totalMicroseconds a + totalMicroseconds b := by
  rw [totalMicroseconds, List.map_append, List.sum_append]; rfl

theorem totalMicroseconds_elementHalves_cons (e : Element) (es : List Element) :
    totalMicroseconds (elementHalves (e :: es)) = markOf e + spaceOf e + totalMicroseconds (elementHalves es) := by
  simp only [totalMicroseconds, elementHalves_cons, List.map_cons, List.sum_cons, halfOfElement, Nat.add_assoc]

theorem elementHalves_append (a b : List Element) : elementHalves (a ++ b) = elementHalves a ++ elementHalves b :=
  List.flatMap_append

/-- A ZERO lasts 1080 and a ONE twice as long. -/
theorem totalMicroseconds_bits {f : List Symbol} (hf : hasOther f = false) :
    totalMicroseconds (elementHalves (f.map bitElement)) = 1080 * f.length + 1080 * onesOf f := by
  induction f with
  | nil => rfl
  | cons y f ih =>
    obtain ⟨hy, hf⟩ : isOther y = false ∧ hasOther f = false := by
      rwa [hasOther, List.any_cons, Bool.or_eq_false_iff] at hf
    rw [List.map_cons, totalMicroseconds_elementHalves_cons, ih hf]
    cases y with
    | zero =>
      have hones : onesOf (.zero :: f) = onesOf f := List.count_cons_of_ne (by decide)
      have hsum : markOf (bitElement .zero) + spaceOf (bitElement .zero) = 1080 := rfl
      rw [hones, hsum, List.length_cons]; omega
    | one =>
      have hones : onesOf (.one :: f) = onesOf f + 1 := List.count_cons_self
      have hsum : markOf (bitElement .one) + spaceOf (bitElement .one) = 2160 := rfl
      rw [hones, hsum, List.length_cons]; omega
    | other c => cases hy

theorem totalMicroseconds_frameHalves {f : List Symbol} (hf : hasOther f = false) :
    totalMicroseconds (frameHalves f) = 16760 + 1080 * f.length + 1080 * onesOf f := by
  have hhdr : markOf .hdr + spaceOf .hdr = 8750 := rfl
  have hend : totalMicroseconds (elementHalves [.endMarker]) = 8010 := rfl
  rw [frameHalves_eq, frameElements, totalMicroseconds_elementHalves_cons, elementHalves_append, totalMicroseconds_append,
    totalMicroseconds_bits hf, hhdr, hend]
  omega

/-- Settles O28: the header and the end last 16760, the symbols by the induction over the frame; the schedule is the frame twice. -/
theorem nominalDuration : Obligations.NominalDuration := by
  intro f hf
  refine ⟨totalMicroseconds_frameHalves hf, ?_⟩
  rw [schedule_eq, totalMicroseconds_append, totalMicroseconds_frameHalves hf]
  omega

theorem symbolOfPair_bitElement {y : Symbol} (h : isOther y = false) : symbolOfPair (pairOf (bitElement y)) = some y := by
  cases y with
  | zero => rfl
  | one => rfl
  | other c => cases h

theorem readTrain_pulseTrain {f : List Symbol} (hf : hasOther f = false) : readTrain (pulseTrain f) = f.map some := by
  have hbits : ((pulseTrain f).drop 1).dropLast = f.map fun y => pairOf (bitElement y) := by
    simp [pulseTrain]
  rw [readTrain, hbits, List.map_map]
  refine List.map_congr_left fun y hy => symbolOfPair_bitElement ?_
  simpa using List.any_eq_false.1 hf y hy

/-- Settles O29: each symbol's pair gives the symbol back, and reading back tells two trains' frames apart. -/
theorem trainReadsBack : Obligations.TrainReadsBack := by
  refine ⟨fun f hf => readTrain_pulseTrain hf, ?_⟩
  intro f g hf hg h
  have hmap : f.map some = g.map some := by rw [← readTrain_pulseTrain hf, h, readTrain_pulseTrain hg]
  exact List.map_injective_iff.2 (Option.some_injective _) hmap

theorem halfOfElement_halfAt_level (e : Element) (k : Nat) :
    (halfOfElement e (halfAt k)).level = if k % 2 = 0 then .on else .off := by
  rcases Nat.mod_two_eq_zero_or_one k with h | h
  · rw [halfAt_even h, h]; rfl
  · rw [halfAt_odd h, h]; rfl

theorem halfOfElement_halfAt_microseconds (e : Element) (k : Nat) :
    (halfOfElement e (halfAt k)).microseconds = if k % 2 = 0 then markOf e else spaceOf e := by
  rcases Nat.mod_two_eq_zero_or_one k with h | h
  · rw [halfAt_even h, h]; rfl
  · rw [halfAt_odd h, h]; rfl

theorem markOf_cases (e : Element) : markOf e = 4400 ∨ markOf e = 560 := by
  cases e <;> decide

theorem spaceOf_cases (e : Element) : spaceOf e = 4350 ∨ spaceOf e = 520 ∨ spaceOf e = 1600 ∨ spaceOf e = 7450 := by
  cases e <;> decide

/-- Settles O30: a half-interval is the mark (K even) or the space (K odd) of some element. -/
theorem scheduleShape : Obligations.ScheduleShape := by
  intro f k h hs
  obtain ⟨e, -, rfl⟩ := Option.map_eq_some_iff.1 hs
  rw [halfOfElement_halfAt_level, halfOfElement_halfAt_microseconds]
  rcases Nat.mod_two_eq_zero_or_one k with hk | hk
  · simp [hk, markOf_cases e]
  · simp [hk, spaceOf_cases e]

/-- Settles O31: the phase is read off `J`, and `J` is K or K - PER. -/
theorem headerAndEndPositions : Obligations.HeaderAndEndPositions := by
  intro len k hk
  have hmod : k % (2 * len + 4) = k ∧ k < 2 * len + 4 ∨ k % (2 * len + 4) = k - (2 * len + 4) ∧ 2 * len + 4 ≤ k := by
    rw [mod_perFrame hk]; split <;> omega
  rcases phaseAt_cases len k with ⟨h, hp⟩ | ⟨h, h', hp⟩ | ⟨h, hp⟩ <;> rw [hp]
  · refine ⟨iff_of_true rfl (by omega), iff_of_false nofun (by omega), nofun⟩
  · refine ⟨iff_of_false nofun (by omega), iff_of_false nofun (by omega), ?_⟩
    rintro i ⟨⟩
    omega
  · refine ⟨iff_of_false nofun (by omega), iff_of_true rfl (by omega), nofun⟩

end Sys2Proof.Proofs
end

section
/-! PROOF of the family other, the pulse elements: what one half-interval does (spec/41_transmitter.md R85 to R91), and one step of
the machine (spec/00_scope.md R9, spec/30_encoding.md R54). -/

namespace Sys2Proof.Proofs

open Sys2Proof.Machine Sys2Proof.Safety Sys2Proof.Laws

/-! ### One half-interval -/

/-- The two calls of a half-interval, both answered: what R85 does before TX moves. -/
def afterHalf (h : Half) (s : State) : State :=
  { s with
    carrier := h.level
    trace := s.trace ++ emittedCalls h
    answers := s.answers.tail
    draws := s.draws + 1 }

/-- The failed call of a half-interval: what R86 does before the failure is raised. -/
def afterFailedCall (h : Half) (s : State) : State :=
  { s with
    carrier := Config.freeLevel s.draws
    trace := s.trace ++ [.setCarrier h.level .fail]
    answers := s.answers.tail
    draws := s.draws + 1 }

theorem delay_setCarrier_of_ok {s : State} (ha : s.answer = .ok) (h : Half) :
    (s.setCarrier h.level).delay h.microseconds = afterHalf h s := by
  simp [State.setCarrier, State.delay, ha, afterHalf, emittedCalls]

theorem setCarrier_of_fail {s : State} (ha : s.answer = .fail) (h : Half) :
    s.setCarrier h.level = afterFailedCall h s := by
  simp [State.setCarrier, ha, afterFailedCall]

/-- What half-interval `h`, number `k` of the request for frame `f`, can do: go on to the next, complete the request, or fail. -/
inductive HalfOutcome (f : List Symbol) (h : Half) (k : Nat) (s t : State) : Prop where
  | passed (ha : s.answer = .ok) (hk : k + 1 < 4 * f.length + 8) (ht : t = { afterHalf h s with tx := .run (k + 1) })
  | completed (ha : s.answer = .ok) (hk : k + 1 = 4 * f.length + 8) (ht : t = (afterHalf h s).complete)
  | failed (ha : s.answer = .fail) (ht : t = (afterFailedCall h s).raise .hardwareFailure s.requester)

/-- The inversion lemma of a half-interval inside the schedule. -/
theorem halfOutcome_emitHalf {s : State} {f : List Symbol} {k : Nat} (hf : s.framebuf = some f)
    (hk : k < 4 * f.length + 8) (h : Half) : HalfOutcome f h k s (s.emitHalf h k) := by
  have hlast : (afterHalf h s).len.map perRequest = some (k + 1) ↔ k + 1 = 4 * f.length + 8 := by
    simp [State.len, afterHalf, hf, perRequest_eq, eq_comm]
  rcases emitHalf_cases h k s with ⟨ha, hs⟩ | ⟨ha, hs⟩
  · rw [delay_setCarrier_of_ok ha] at hs
    rcases advance_cases k (afterHalf h s) with ⟨hl, hadv⟩ | ⟨hl, hadv⟩
    · exact .completed ha (hlast.1 hl) (hs.trans hadv)
    · exact .passed ha (Nat.lt_of_le_of_ne hk (mt hlast.2 hl)) (hs.trans hadv)
  · rw [setCarrier_of_fail ha] at hs
    exact .failed ha hs

section Outcomes

variable {s : State} {f : List Symbol} {k : Nat}

theorem emitHalf_passed (hf : s.framebuf = some f) (hk : k + 1 < 4 * f.length + 8) (ha : s.answer = .ok) (h : Half) :
    s.emitHalf h k = { afterHalf h s with tx := .run (k + 1) } := by
  cases halfOutcome_emitHalf hf (Nat.lt_of_succ_lt hk) h with
  | passed _ _ ht => exact ht
  | completed _ hk' _ => exact absurd hk' (Nat.ne_of_lt hk)
  | failed ha' _ => cases ha.symm.trans ha'

theorem emitHalf_completed (hf : s.framebuf = some f) (hk : k + 1 = 4 * f.length + 8) (ha : s.answer = .ok) (h : Half) :
    s.emitHalf h k = (afterHalf h s).complete := by
  cases halfOutcome_emitHalf hf (Nat.lt_of_succ_le (Nat.le_of_eq hk)) h with
  | passed _ hk' _ => exact absurd hk (Nat.ne_of_lt hk')
  | completed _ _ ht => exact ht
  | failed ha' _ => cases ha.symm.trans ha'

theorem emitHalf_failed (hf : s.framebuf = some f) (hk : k < 4 * f.length + 8) (ha : s.answer = .fail) (h : Half) :
    s.emitHalf h k = (afterFailedCall h s).raise .hardwareFailure s.requester := by
  cases halfOutcome_emitHalf hf hk h with
  | passed ha' _ _ => cases ha.symm.trans ha'
  | completed ha' _ _ => cases ha.symm.trans ha'
  | failed _ ht => exact ht

end Outcomes

/-! ### The elements -/

theorem exec_instrOf_eq_runElement (e : Element) (s : State) : exec (instrOf e) s = s.runElement e := by
  cases e <;> rfl

/-- An element that answers a next state was selected and has emitted its half-interval. -/
theorem emitHalf_of_exec_instrOf {e : Element} {s t : State} (h : exec (instrOf e) s = .next t) :
    ∃ k f, s.tx = .run k ∧ s.framebuf = some f ∧ elementAt f k = some e ∧
      t = s.emitHalf (halfOfElement e (halfAt k)) k := by
  rw [exec_instrOf_eq_runElement] at h
  rcases runElement_cases e s with ⟨k, hs, hr⟩ | ⟨-, hr⟩
  · obtain ⟨hx, f, hf, he⟩ := (selected_eq_some_iff s e k).1 hs
    exact ⟨k, f, hx, hf, he, Host.Outcome.next.inj (h.symm.trans hr)⟩
  · cases h.symm.trans hr

/-- The calls of half-interval `k` of an element, by the parity of `k`. -/
theorem emittedCalls_halfOfElement (e : Element) (k : Nat) :
    emittedCalls (halfOfElement e (halfAt k)) =
      if k % 2 = 0 then [.setCarrier .on .ok, .delay (markOf e)] else [.setCarrier .off .ok, .delay (spaceOf e)] := by
  rw [emittedCalls, halfOfElement_halfAt_level, halfOfElement_halfAt_microseconds]
  split <;> rfl

section Selected

variable {e : Element} {s : State} {k : Nat} {f : List Symbol} (hx : s.tx = .run k) (hf : s.framebuf = some f)
  (he : elementAt f k = some e)

include hx hf he

/-- A selected element answered ok before the last half-interval (R85). -/
theorem exec_instrOf_passed (hk : k + 1 < 4 * f.length + 8) (ha : s.answer = .ok) :
    exec (instrOf e) s =
      .next { s with
        carrier := if k % 2 = 0 then .on else .off
        trace := s.trace ++ (if k % 2 = 0 then [.setCarrier .on .ok, .delay (markOf e)]
          else [.setCarrier .off .ok, .delay (spaceOf e)])
        answers := s.answers.tail
        draws := s.draws + 1
        tx := .run (k + 1) } := by
  rw [exec_instrOf hx hf he, emitHalf_passed hf hk ha, afterHalf, emittedCalls_halfOfElement, halfOfElement_halfAt_level]

/-- A selected element answered ok at the last half-interval, which is a space (R91). -/
theorem exec_instrOf_completed (hk : k + 1 = 4 * f.length + 8) (ha : s.answer = .ok) :
    exec (instrOf e) s =
      .next (State.complete { s with
        carrier := .off
        trace := s.trace ++ [.setCarrier .off .ok, .delay (spaceOf e)]
        answers := s.answers.tail
        draws := s.draws + 1 }) := by
  have hodd : k % 2 = 1 := by omega
  rw [exec_instrOf hx hf he, emitHalf_completed hf hk ha, halfAt_odd hodd]
  rfl

/-- A selected element whose call failed (R86). -/
theorem exec_instrOf_failed (ha : s.answer = .fail) :
    exec (instrOf e) s =
      .next (State.raise .hardwareFailure s.requester { s with
        carrier := Config.freeLevel s.draws
        trace := s.trace ++ [.setCarrier (if k % 2 = 0 then .on else .off) .fail]
        answers := s.answers.tail
        draws := s.draws + 1 }) := by
  rw [exec_instrOf hx hf he, emitHalf_failed hf (lt_of_elementAt he) ha, afterFailedCall, halfOfElement_halfAt_level]

end Selected

/-- Settles O32: HDR is selected, and `J` below 2 is not the last half-interval. -/
theorem headerElementEmits : Obligations.HeaderElementEmits := by
  intro s k f hx hf hk hj ha
  have hnext : k + 1 < 4 * f.length + 8 := by
    rw [mod_perFrame hk] at hj
    split at hj <;> omega
  exact exec_instrOf_passed hx hf (elementAt_header hk hj) hnext ha

/-- A half-interval of a symbol is not the last: the end follows. -/
theorem succ_lt_of_bit {f : List Symbol} {k : Nat} {y : Symbol} (hk : k < 4 * f.length + 8)
    (hj : 2 ≤ k % (2 * f.length + 4)) (hy : f[(k % (2 * f.length + 4) - 2) / 2]? = some y) : k + 1 < 4 * f.length + 8 := by
  obtain ⟨hlt, -⟩ := List.getElem?_eq_some_iff.1 hy
  have hmod := mod_perFrame hk
  split at hmod <;> omega

/-- Settles O33: the symbol ZERO selects BIT0. -/
theorem zeroBitElementEmits : Obligations.ZeroBitElementEmits := by
  intro s k f hx hf hk hj hy ha
  exact exec_instrOf_passed (e := .bit0) hx hf (elementAt_bits hk hj hy) (succ_lt_of_bit hk hj hy) ha

/-- Settles O34: the symbol ONE selects BIT1. -/
theorem oneBitElementEmits : Obligations.OneBitElementEmits := by
  intro s k f hx hf hk hj hy ha
  exact exec_instrOf_passed (e := .bit1) hx hf (elementAt_bits hk hj hy) (succ_lt_of_bit hk hj hy) ha

/-- Settles O35: END is selected at the last two half-intervals of a frame. -/
theorem endElementEmits : Obligations.EndElementEmits := by
  intro s k f hx hf hk hj ha
  exact exec_instrOf_passed hx hf (elementAt_end (Nat.lt_of_succ_lt hk) hj) hk ha

/-- The last half-interval belongs to END. -/
theorem elementAt_last (f : List Symbol) : elementAt f (4 * f.length + 7) = some .endMarker := by
  have hk : 4 * f.length + 7 < 4 * f.length + 8 := Nat.lt_succ_self _
  refine elementAt_end hk ?_
  rw [mod_perFrame hk]
  split <;> omega

/-- Settles O36: END at the last half-interval completes, and the reply goes to the requester. -/
theorem lastHalfCompletes : Obligations.LastHalfCompletes := by
  intro s f op hx hf hop ha
  rw [show Instr.endMarker = instrOf .endMarker from rfl, exec_instrOf_completed hx hf (elementAt_last f) rfl ha,
    State.complete, hop]
  rfl

/-- Settles O37: the failed call raises HardwareFailure, and the reply goes to the requester. -/
theorem failedCallAborts : Obligations.FailedCallAborts := by
  intro e s k f op hx hf he hop ha
  rw [exec_instrOf_failed hx hf he ha, hop]
  rfl

/-- `J` of a mark is even, so its space follows in the same phase. -/
theorem phaseAt_succ_of_even (len : Nat) {k : Nat} (h : k % 2 = 0) : phaseAt len (k + 1) = phaseAt len k := by
  have hdvd : 2 ∣ 2 * len + 4 := ⟨len + 2, by omega⟩
  have hpar : k % (2 * len + 4) % 2 = k % 2 := Nat.mod_mod_of_dvd k hdvd
  have hlt : k % (2 * len + 4) < 2 * len + 4 := Nat.mod_lt k (Nat.succ_pos _)
  have hsucc : (k + 1) % (2 * len + 4) = k % (2 * len + 4) + 1 := by
    rw [← Nat.mod_add_mod]
    exact Nat.mod_eq_of_lt (by omega)
  rcases phaseAt_cases len k with ⟨hj, hp⟩ | ⟨hj, hj', hp⟩ | ⟨hj, hp⟩
  · rw [hp, phaseAt_header (by omega)]
  · rw [hp, phaseAt_bits (by omega) (by omega), hsucc]
    exact congrArg Phase.sendingBits (by omega)
  · rw [hp, phaseAt_end (by omega)]

/-- The element selected at a mark is selected at its space. -/
theorem elementAt_succ_of_even {f : List Symbol} {k : Nat} {e : Element} (h : k % 2 = 0) (he : elementAt f k = some e) :
    elementAt f (k + 1) = some e := by
  have hk := lt_of_elementAt he
  rw [← he, elementAt, elementAt, phaseAt_succ_of_even f.length h, perRequest_eq, if_pos hk, if_pos (by omega)]

/-- Settles O38: the mark passes, and the space of the same element passes or, at the last half-interval, completes. -/
theorem elementIsTwoSteps : Obligations.ElementIsTwoSteps := by
  intro e s k f rest hx hf heven he hans
  have hk := lt_of_elementAt he
  have hodd : (k + 1) % 2 = 1 := by omega
  have hmid := exec_instrOf_passed hx hf he (by omega) (answer_cons hans)
  have hans' : s.answers.tail = .ok :: rest := congrArg List.tail hans
  by_cases hlast : k + 2 = 4 * f.length + 8
  · refine ⟨_, _, hmid, exec_instrOf_completed rfl hf (elementAt_succ_of_even heven he) hlast (answer_cons hans'), ?_⟩
    simp [heven, hans, hlast]
  · refine ⟨_, _, hmid, exec_instrOf_passed rfl hf (elementAt_succ_of_even heven he) (by omega) (answer_cons hans'), ?_⟩
    rw [if_neg hlast, if_neg hlast]
    simp [heven, hodd, hans, hf]

/-- Settles O39: where no K and frame select the element, it is refused. -/
theorem unselectedElementRefused : Obligations.UnselectedElementRefused := by
  intro e s h
  rw [exec_instrOf_eq_runElement]
  rcases runElement_cases e s with ⟨k, hs, -⟩ | ⟨-, hr⟩
  · obtain ⟨hx, f, hf, he⟩ := (selected_eq_some_iff s e k).1 hs
    exact absurd he (h k f hx hf)
  · exact hr

/-! ### One step -/

theorem runRequest_of_decode_ok {r : Request} {i : Instr} (hd : decode (.request r) = .ok i) (s : State) :
    s.runRequest r = exec i s := by
  rw [State.runRequest, hd]

theorem runRequest_of_decode_error {r : Request} {e : DecodeError} (hd : decode (.request r) = .error e) (s : State) :
    s.runRequest r = .refused (.notAnInstruction e) := by
  rw [State.runRequest, hd]

/-- Settles O4: selector 3 decodes to no operation. -/
theorem selectorThreeRefused : Obligations.SelectorThreeRefused := by
  intro s mode temp fan frame rest hi
  rw [step_of_request hi]
  exact runRequest_of_decode_error rfl _

theorem busy_of_run {s : State} {k : Nat} (hx : s.tx = .run k) : s.busy = true := (busy_eq_true_iff s).2 ⟨k, hx⟩

/-- The own move of a running block executes what is fetched and decoded. -/
theorem sequence_of_fetch {s : State} {c : Code} {i : Instr} (hb : s.busy = true) (hc : s.fetch = some c)
    (hd : decode c = .ok i) : s.sequence = exec i s := by
  rw [State.sequence, hb, (fetchInstr_eq_ok_iff s i).2 ⟨c, hc, hd⟩]
  rfl

theorem sequence_of_ready {s : State} (hb : s.busy = false) : s.sequence = .next s := by
  rw [State.sequence, hb]
  rfl

/-- Settles O40: a request is decoded; a frame object that decodes is the FRAME72 of its bits, which acts as the hand-over of the
bits; and the own move decodes what it fetches. -/
theorem stepRunsDecodedInstruction : Obligations.StepRunsDecodedInstruction := by
  refine ⟨?_, ?_, ?_⟩
  · intro s r rest i hi hd
    rw [step_of_request hi, runRequest_of_decode_ok hd]
  · intro s bits rest i hi hd
    obtain ⟨t, f, p, m, c, k, rfl, hbits⟩ := frame72Bits_of_decodeFrame hd
    rw [step_of_frame hi, exec_frame72, hbits]
  · intro s k c i hq hx hc hd
    rw [step_of_quiet hq]
    exact sequence_of_fetch (s := s.popInput) (busy_of_run hx) hc hd

/-- While a symbol is sent, it is what is fetched. -/
theorem fetch_of_bits {s : State} {k i : Nat} {f : List Symbol} (hx : s.tx = .run k) (hf : s.framebuf = some f)
    (hk : k < 4 * f.length + 8) (hp : phaseAt f.length k = .sendingBits i) : s.fetch = f[i]?.map Code.symbol := by
  simp only [State.fetch, hx, State.len, hf, Option.map_some, perRequest_eq, hk, if_true, hp, memRead_of_run hx hf]

/-- While the header or the end is sent, the phase is what is fetched. -/
theorem fetch_of_not_bits {s : State} {k : Nat} {f : List Symbol} (hx : s.tx = .run k) (hf : s.framebuf = some f)
    (hk : k < 4 * f.length + 8) (hp : phaseAt f.length k = .sendingHeader ∨ phaseAt f.length k = .sendingEnd) :
    s.fetch = some (.implicit (phaseAt f.length k)) := by
  rcases hp with hp | hp <;>
    simp only [State.fetch, hx, State.len, hf, Option.map_some, perRequest_eq, hk, if_true, hp]

/-- The symbol that selects an element decodes to it (R54). -/
theorem decode_symbol_of_elementOfSymbol {y : Symbol} {e : Element} (h : elementOfSymbol y = some e) :
    decode (.symbol y) = .ok (instrOf e) := by
  cases y with
  | zero => cases h; rfl
  | one => cases h; rfl
  | other c => cases h

/-- Settles O41: header and end are fetched as their phase, a symbol from its position, and each decodes to its element. -/
theorem fetchDecodesToSelectedElement : Obligations.FetchDecodesToSelectedElement := by
  intro s k f e hx hf he
  have hk := lt_of_elementAt he
  rcases phaseAt_cases f.length k with ⟨hj, hp⟩ | ⟨hj, hj', hp⟩ | ⟨hj, hp⟩
  · cases (elementAt_header hk hj).symm.trans he
    exact ⟨_, fetch_of_not_bits hx hf hk (.inl hp), by rw [hp]; rfl⟩
  · have hy := List.getElem?_eq_getElem (l := f) (i := (k % (2 * f.length + 4) - 2) / 2) (by omega)
    have hfetch := fetch_of_bits hx hf hk hp
    rw [hy] at hfetch
    exact ⟨_, hfetch, decode_symbol_of_elementOfSymbol ((elementAt_bits hk hj hy).symm.trans he)⟩
  · cases (elementAt_end hk hj).symm.trans he
    exact ⟨_, fetch_of_not_bits hx hf hk (.inr hp), by rw [hp]; rfl⟩

/-- Settles O42: the own move of a ready block is to wait. -/
theorem readyBlockWaits : Obligations.ReadyBlockWaits := by
  intro s hb hq
  rw [step_of_quiet hq]
  exact sequence_of_ready (s := s.popInput) hb

/-- Settles O43: a presented reset resets the block, field by field. -/
theorem resetLosesTheRequest : Obligations.ResetLosesTheRequest := by
  intro s rest hi
  rw [step_of_reset hi]
  rfl

/-- Settles O44: the reset values as they are written in the model. -/
theorem resetValues : Obligations.ResetValues :=
  ⟨rfl, rfl, rfl, rfl, rfl, rfl, rfl, rfl, rfl⟩

end Sys2Proof.Proofs
end

section
/-! PROOF of the family other, what every instruction and every step keeps (spec/10_state.md R14 to R24, spec/41_transmitter.md
R92): one inversion of the requests, one of the step, and from these each rule. -/

namespace Sys2Proof.Proofs

open Sys2Proof.Machine Sys2Proof.Safety Sys2Proof.Laws

/-! ### What taking a request can do -/

/-- What an instruction that is no pulse element can do: reply at once for the encoder, be dropped, or latch a frame that is then
rejected or started, in the last two cases perhaps after a command snapshot (SEND). -/
inductive Taken (s t : State) : Prop where
  | replied (c : Command) (r : Reply)
      (hr : (r.op = .encode ∧ r.result = .ok) ∨ (r.op ≠ .transmit ∧ r.result = .invalidArgument))
      (ht : t = { s with cmd := some c, result := r.result, replies := s.replies ++ [r] })
  | dropped (hb : s.busy = true) (ht : t = s.refuseOverlap)
  | rejected (c : Option Command) (op : Op) (f : List Symbol) (hb : s.busy = false) (ho : hasOther f = true)
      (ht : t = (State.latch f { s with cmd := c }).raise .transmitterInvalidArgument (some op))
  | started (c : Option Command) (op : Op) (f : List Symbol) (hb : s.busy = false) (ho : hasOther f = false)
      (hop : op = .transmit ∨ op = .send) (ht : t = (State.latch f { s with cmd := c }).start op)

/-- A frame accepted from a ready state, perhaps after a command snapshot, was rejected or started. -/
theorem taken_of_accept {op : Op} {s : State} (hop : op = .transmit ∨ op = .send) (hb : s.busy = false) (c : Option Command)
    (f : List Symbol) : Taken s (State.accept op f { s with cmd := c }) := by
  rcases accept_cases op f { s with cmd := c } with ⟨ho, ht⟩ | ⟨ho, ht⟩
  · exact .rejected c op f hb ho ht
  · exact .started c op f hb ho hop ht

/-- What an instruction that answered a next state did, by whether it is a pulse element. -/
theorem exec_cases {i : Instr} {s t : State} (h : exec i s = .next t) :
    (∃ e k f, i = instrOf e ∧ s.tx = .run k ∧ s.framebuf = some f ∧ elementAt f k = some e ∧
      HalfOutcome f (halfOfElement e (halfAt k)) k s t) ∨ Taken s t := by
  cases exec_effect h with
  | encoded c fr hi hf ht => exact .inr (.replied c ⟨.encode, .ok, some fr⟩ (.inl ⟨rfl, rfl⟩) ht)
  | encodeFailed c hi hf ht => exact .inr (.replied c ⟨.encode, .invalidArgument, none⟩ (.inr ⟨nofun, rfl⟩) ht)
  | sendFailed c hi hb hf ht => exact .inr (.replied c ⟨.send, .invalidArgument, none⟩ (.inr ⟨nofun, rfl⟩) ht)
  | dropped hi he hb ht => exact .inr (.dropped hb ht)
  | transmitted f hi hb hm ht => exact .inr (ht ▸ taken_of_accept (.inl rfl) hb s.cmd f)
  | sent c fr hi hb hf hm ht => exact .inr (ht ▸ taken_of_accept (.inr rfl) hb (some c) _)
  | emitted e k f hi hx hf he ht =>
    exact .inl ⟨e, k, f, hi, hx, hf, he, ht ▸ halfOutcome_emitHalf hf (lt_of_elementAt he) _⟩

theorem taken_of_exec {i : Instr} {s t : State} (hi : ∀ e, i ≠ instrOf e) (h : exec i s = .next t) : Taken s t := by
  rcases exec_cases h with ⟨e, -, -, he, -⟩ | ht
  · exact absurd he (hi e)
  · exact ht

theorem halfOutcome_of_exec {e : Element} {s t : State} (h : exec (instrOf e) s = .next t) :
    ∃ k f, s.tx = .run k ∧ s.framebuf = some f ∧ elementAt f k = some e ∧
      HalfOutcome f (halfOfElement e (halfAt k)) k s t := by
  obtain ⟨k, f, hx, hf, he, ht⟩ := emitHalf_of_exec_instrOf h
  exact ⟨k, f, hx, hf, he, ht ▸ halfOutcome_emitHalf hf (lt_of_elementAt he) _⟩

/-- While a transmission runs, taking a request moves neither TX nor FRAMEBUF. -/
theorem tx_framebuf_of_taken {s t : State} (h : Taken s t) (hb : s.busy = true) :
    t.tx = s.tx ∧ t.framebuf = s.framebuf := by
  cases h with
  | replied c r hr ht => subst ht; exact ⟨rfl, rfl⟩
  | dropped _ ht => subst ht; exact ⟨rfl, rfl⟩
  | rejected c op f hb' => cases hb.symm.trans hb'
  | started c op f hb' => cases hb.symm.trans hb'

/-! ### What a step can do -/

/-- An operation request or a frame stands first in the inbox. -/
def presented (s : State) : Prop := ∃ rest, (∃ r, s.inbox = .request r :: rest) ∨ ∃ bits, s.inbox = .frame bits :: rest

/-- What a step can do: take a reset or a request, wait, or emit the selected half-interval. -/
inductive Turn (s t : State) : Prop where
  | reset (rest : List Input) (hi : s.inbox = .reset :: rest) (ht : t = s.popInput.platformReset)
  | taken (hp : presented s) (ht : Taken s.popInput t)
  | waited (hq : quiet s) (hb : s.busy = false) (ht : t = s.popInput)
  | emitted (e : Element) (k : Nat) (f : List Symbol) (hq : quiet s) (hx : s.tx = .run k) (hf : s.framebuf = some f)
      (he : elementAt f k = some e) (ht : HalfOutcome f (halfOfElement e (halfAt k)) k s.popInput t)

theorem decodeRequest_ne_instrOf {r : Request} {i : Instr} (h : decode (.request r) = .ok i) (e : Element) :
    i ≠ instrOf e := by
  rw [decode, decodeRequest] at h
  split_ifs at h <;> cases h <;> cases e <;> nofun

theorem fetch_cases {s : State} {c : Code} (h : s.fetch = some c) : (∃ y, c = .symbol y) ∨ ∃ ph, c = .implicit ph := by
  unfold State.fetch at h
  split at h
  · split at h
    · split at h
      · obtain ⟨y, -, hy⟩ := Option.map_eq_some_iff.1 h
        exact .inl ⟨y, hy.symm⟩
      · exact .inr ⟨_, (Option.some.inj h).symm⟩
    · cases h
  · cases h

/-- Symbols and phases decode to pulse elements only (R54). -/
theorem instrOf_of_decode_fetch {s : State} {c : Code} {i : Instr} (hf : s.fetch = some c) (hd : decode c = .ok i) :
    ∃ e, i = instrOf e := by
  rcases fetch_cases hf with ⟨y, rfl⟩ | ⟨ph, rfl⟩
  · cases y with
    | zero => cases hd; exact ⟨.bit0, rfl⟩
    | one => cases hd; exact ⟨.bit1, rfl⟩
    | other c => cases hd
  · cases ph with
    | sendingHeader => cases hd; exact ⟨.hdr, rfl⟩
    | sendingEnd => cases hd; exact ⟨.endMarker, rfl⟩
    | idle => cases hd
    | sendingBits i => cases hd
    | done => cases hd
    | aborted => cases hd

/-- The inversion lemma of step, down to the shared operations. -/
theorem step_turn {s t : State} (h : step s = .next t) : Turn s t := by
  cases step_move h with
  | reset rest hi ht => exact .reset rest hi ht
  | requested r rest i hi hd ht =>
    exact .taken ⟨rest, .inl ⟨r, hi⟩⟩ (taken_of_exec (decodeRequest_ne_instrOf hd) ht)
  | handedOver bits rest hi ht =>
    exact .taken ⟨rest, .inr ⟨bits, hi⟩⟩ (taken_of_exec (fun e => by cases e <;> nofun) ht)
  | waited hq hb ht => exact .waited hq hb ht
  | sequenced c i hq hb hf hd ht =>
    obtain ⟨e, rfl⟩ := instrOf_of_decode_fetch hf hd
    obtain ⟨k, f, hx, hf, he, hout⟩ := halfOutcome_of_exec ht
    exact .emitted e k f hq hx hf he hout

theorem not_quiet_of_presented {s : State} (h : presented s) : ¬ quiet s := by
  obtain ⟨rest, ⟨r, hi⟩ | ⟨bits, hi⟩⟩ := h <;> simp [quiet, hi]

theorem not_quiet_of_reset {s : State} {rest : List Input} (h : s.inbox = .reset :: rest) : ¬ quiet s := by
  simp [quiet, h]

/-- Where a request or a frame is presented, it is taken. -/
theorem taken_of_step {s t : State} (hp : presented s) (h : step s = .next t) : Taken s.popInput t := by
  cases step_turn h with
  | reset rest hi ht => obtain ⟨rest', ⟨r, hr⟩ | ⟨bits, hr⟩⟩ := hp <;> cases hi.symm.trans hr
  | taken _ ht => exact ht
  | waited hq => exact absurd hq (not_quiet_of_presented hp)
  | emitted e k f hq => exact absurd hq (not_quiet_of_presented hp)

/-- Where nothing is presented in Run(K), the half-interval K of the latched frame is emitted. -/
theorem halfOutcome_of_step {s t : State} {k : Nat} (hq : quiet s) (hx : s.tx = .run k) (h : step s = .next t) :
    ∃ e f, s.framebuf = some f ∧ elementAt f k = some e ∧
      HalfOutcome f (halfOfElement e (halfAt k)) k s.popInput t := by
  cases step_turn h with
  | reset rest hi => exact absurd hq (not_quiet_of_reset hi)
  | taken hp => exact absurd hq (not_quiet_of_presented hp)
  | waited _ hb => cases hb.symm.trans (busy_of_run hx)
  | emitted e k' f _ hx' hf he ht =>
    cases hx.symm.trans hx'
    exact ⟨e, f, hf, he, ht⟩

/-! ### The position (R24 (a)) -/

theorem positionGood_of_taken {s t : State} (h : positionGood s) (ht : Taken s t) : positionGood t := by
  cases ht with
  | replied c r hr ht => subst ht; exact h
  | dropped hb ht => subst ht; exact h
  | rejected c op f hb ho ht => subst ht; nofun
  | started c op f hb ho hop ht =>
    subst ht
    rintro k ⟨⟩
    exact ⟨f, rfl, Nat.succ_pos _, ho⟩

theorem positionGood_of_halfOutcome {s t : State} {f : List Symbol} {h : Half} {k : Nat} (hf : s.framebuf = some f)
    (ho : hasOther f = false) (ht : HalfOutcome f h k s t) : positionGood t := by
  cases ht with
  | passed ha hk ht =>
    subst ht
    rintro k ⟨⟩
    exact ⟨f, hf, hk, ho⟩
  | completed ha hk ht => subst ht; nofun
  | failed ha ht => subst ht; nofun

/-- In Run(K) of a good position the latched frame is validated. -/
theorem hasOther_of_positionGood {s : State} {k : Nat} {f : List Symbol} (h : positionGood s) (hx : s.tx = .run k)
    (hf : s.framebuf = some f) : hasOther f = false := by
  obtain ⟨g, hg, -, ho⟩ := h k hx
  cases hf.symm.trans hg
  exact ho

/-- Settles O47: a taken request leaves the position or puts it at the start of a validated frame; a half-interval moves it inside
the schedule of the same frame or ends the transmission. -/
theorem stepKeepsPositionGood : Obligations.StepKeepsPositionGood := by
  intro s t h hstep
  cases step_turn hstep with
  | reset rest hi ht => subst ht; nofun
  | taken hp ht => exact positionGood_of_taken (s := s.popInput) h ht
  | waited hq hb ht => subst ht; exact h
  | emitted e k f hq hx hf he ht =>
    exact positionGood_of_halfOutcome (s := s.popInput) hf (hasOther_of_positionGood h hx hf) ht

/-- The block's own move where an element is selected is that element. -/
theorem step_of_elementAt {s : State} {k : Nat} {f : List Symbol} {e : Element} (hq : quiet s) (hx : s.tx = .run k)
    (hf : s.framebuf = some f) (he : elementAt f k = some e) : step s = exec (instrOf e) s.popInput := by
  obtain ⟨c, hc, hd⟩ := fetchDecodesToSelectedElement s k f e hx hf he
  rw [step_of_quiet hq]
  exact sequence_of_fetch (s := s.popInput) (busy_of_run hx) hc hd

/-- Settles O48: a ready block waits; in Run(K) of a good position an element is selected, and it is what is fetched. -/
theorem ownMoveNeverStops : Obligations.OwnMoveNeverStops := by
  intro s h hq
  cases hb : s.busy with
  | false => exact ⟨_, readyBlockWaits s hb hq⟩
  | true =>
    obtain ⟨k, hx⟩ := (busy_eq_true_iff s).1 hb
    obtain ⟨f, hf, hk, ho⟩ := h k hx
    obtain ⟨e, he⟩ := elementAt_isSome ho hk
    exact ⟨_, (step_of_elementAt hq hx hf he).trans (exec_instrOf (s := s.popInput) hx hf he)⟩

/-! ### The requester (R81) -/

theorem requester_of_run {s : State} {k : Nat} (h : requesterGood s) (hx : s.tx = .run k) :
    ∃ op, s.requester = some op ∧ (op = .transmit ∨ op = .send) := by
  rw [requesterGood, busy_of_run hx, if_pos rfl] at h
  rcases h with h | h
  · exact ⟨_, h, .inl rfl⟩
  · exact ⟨_, h, .inr rfl⟩

theorem requesterGood_of_taken {s t : State} (h : requesterGood s) (ht : Taken s t) : requesterGood t := by
  cases ht with
  | replied c r hr ht => subst ht; exact h
  | dropped hb ht => subst ht; exact h
  | rejected c op f hb ho ht => subst ht; exact rfl
  | started c op f hb ho hop ht => subst ht; exact hop.imp (congrArg some) (congrArg some)

theorem requesterGood_of_halfOutcome {s t : State} {f : List Symbol} {h : Half} {k : Nat} (hg : requesterGood s)
    (hx : s.tx = .run k) (ht : HalfOutcome f h k s t) : requesterGood t := by
  cases ht with
  | passed ha hk ht =>
    subst ht
    rwa [requesterGood, busy_of_run hx] at hg
  | completed ha hk ht => subst ht; exact rfl
  | failed ha ht => subst ht; exact rfl

/-! ### The trace (R85, R86, R91, R117) -/

theorem emittedTrace_succ {f : List Symbol} {k : Nat} {h : Half} (hs : (schedule f)[k]? = some h) :
    emittedTrace f (k + 1) = emittedTrace f k ++ emittedCalls h := by
  rw [emittedTrace, List.take_add_one, hs, List.flatMap_append, emittedTrace]
  simp

theorem trace_of_run {s : State} {k : Nat} {f : List Symbol} (h : traceGood s) (hx : s.tx = .run k)
    (hf : s.framebuf = some f) : s.trace = emittedTrace f k := by
  rw [traceGood, hx] at h
  obtain ⟨g, hg, htrace⟩ := h
  cases hf.symm.trans hg
  exact htrace

theorem traceGood_of_taken {s t : State} (h : traceGood s) (ht : Taken s t) : traceGood t := by
  cases ht with
  | replied c r hr ht => subst ht; exact h
  | dropped hb ht => subst ht; exact h
  | rejected c op f hb ho ht => subst ht; exact .inl ⟨f, rfl, ho, rfl⟩
  | started c op f hb ho hop ht => subst ht; exact ⟨f, rfl, rfl⟩

theorem traceGood_of_halfOutcome {s t : State} {f : List Symbol} {h : Half} {k : Nat} (htr : s.trace = emittedTrace f k)
    (hf : s.framebuf = some f) (ho : hasOther f = false) (hs : (schedule f)[k]? = some h) (ht : HalfOutcome f h k s t) :
    traceGood t := by
  have hnext : s.trace ++ emittedCalls h = emittedTrace f (k + 1) := by rw [htr, emittedTrace_succ hs]
  cases ht with
  | passed ha hk ht => subst ht; exact ⟨f, hf, hnext⟩
  | completed ha hk ht => subst ht; exact ⟨rfl, f, ho, hk ▸ hnext⟩
  | failed ha ht => subst ht; exact .inr ⟨rfl, f, k, h, ho, hs, congrArg (· ++ _) htr⟩

/-! ### The line (R21) -/

theorem carrierGood_of_taken {s t : State} (h : carrierGood s) (ht : Taken s t) : carrierGood t := by
  cases ht with
  | replied c r hr ht => subst ht; exact h
  | dropped hb ht => subst ht; exact h
  | rejected c op f hb ho ht => subst ht; exact ⟨nofun, nofun⟩
  | started c op f hb ho hop ht => subst ht; exact ⟨nofun, nofun⟩

theorem carrierGood_of_halfOutcome {s t : State} {f : List Symbol} {e : Element} {k : Nat} (hf : s.framebuf = some f)
    (hs : (schedule f)[k]? = some (halfOfElement e (halfAt k)))
    (ht : HalfOutcome f (halfOfElement e (halfAt k)) k s t) : carrierGood t := by
  cases ht with
  | passed ha hk ht =>
    subst ht
    refine ⟨nofun, ?_⟩
    rintro k g h ⟨⟩ hg hh
    cases hf.symm.trans hg
    cases hs.symm.trans hh
    rfl
  | completed ha hk ht =>
    subst ht
    refine ⟨fun _ => ?_, nofun⟩
    have hodd : k % 2 = 1 := by omega
    rw [halfAt_odd hodd]
    rfl
  | failed ha ht => subst ht; exact ⟨nofun, nofun⟩

/-! ### RESULT (R24 (c), R150) -/

/-- RESULT after a reply is that reply's, so only the rule against TX is left to show. -/
theorem resultGood_of_last {s : State} {r : Reply} (hlast : s.replies.getLast? = some r) (hr : s.result = r.result)
    (htx : s.busy = false →
      (r.op ≠ .encode → r.result = .ok → s.tx = .done) ∧
      (r.op ≠ .encode → r.result = .hardwareFailure → s.tx = .aborted) ∧
      (r.op = .transmit → r.result = .invalidArgument → s.tx = .aborted)) : resultGood s := by
  intro _
  refine ⟨r, hlast, hr.symm, ?_⟩
  rwa [hr]

/-- While a transmission runs, RESULT need only be the last reply's. -/
theorem resultGood_of_busy {s t : State} (h : resultGood s) (hb : t.busy = true) (hr : t.result = s.result)
    (hl : t.replies = s.replies) : resultGood t := by
  intro hne
  obtain ⟨r, hlast, hres, -⟩ := h (hr ▸ hne)
  exact ⟨r, hl ▸ hlast, hres.trans hr.symm, fun hb' => nomatch hb.symm.trans hb'⟩

theorem resultGood_of_taken {s t : State} (h : resultGood s) (ht : Taken s t) : resultGood t := by
  cases ht with
  | replied c r hr ht =>
    subst ht
    refine resultGood_of_last List.getLast?_concat rfl fun _ => ?_
    rcases hr with ⟨hop, hres⟩ | ⟨hop, hres⟩
    · simp [hop]
    · simp [hop, hres]
  | dropped hb ht => subst ht; exact h
  | rejected c op f hb ho ht =>
    subst ht
    exact resultGood_of_last List.getLast?_concat rfl fun _ => ⟨nofun, nofun, fun _ _ => rfl⟩
  | started c op f hb ho hop ht => subst ht; exact resultGood_of_busy h rfl rfl rfl

theorem resultGood_of_halfOutcome {s t : State} {f : List Symbol} {h : Half} {k : Nat} (hg : resultGood s) {op : Op}
    (hop : s.requester = some op) (ht : HalfOutcome f h k s t) : resultGood t := by
  cases ht with
  | passed ha hk ht => subst ht; exact resultGood_of_busy hg rfl rfl rfl
  | completed ha hk ht =>
    subst ht
    refine resultGood_of_last (r := ⟨op, .ok, none⟩) ?_ rfl fun _ => ⟨fun _ _ => rfl, nofun, nofun⟩
    simp [afterHalf, hop]
  | failed ha ht =>
    subst ht
    refine resultGood_of_last (r := ⟨op, .hardwareFailure, none⟩) ?_ rfl fun _ => ⟨nofun, fun _ _ => rfl, nofun⟩
    simp [afterFailedCall, hop]

/-! ### The invariant -/

/-- The block is good after a reset, whatever was observed before. -/
theorem good_platformReset (s : State) : Good s.platformReset :=
  ⟨nofun, rfl, ⟨rfl, rfl⟩, ⟨nofun, nofun⟩, fun h => absurd rfl h⟩

theorem good_of_taken {s t : State} (h : Good s) (ht : Taken s t) : Good t := by
  obtain ⟨hpos, hreq, htrace, hcarrier, hresult⟩ := h
  exact ⟨positionGood_of_taken hpos ht, requesterGood_of_taken hreq ht, traceGood_of_taken htrace ht,
    carrierGood_of_taken hcarrier ht, resultGood_of_taken hresult ht⟩

theorem good_of_halfOutcome {s t : State} {f : List Symbol} {e : Element} {k : Nat} (h : Good s) (hx : s.tx = .run k)
    (hf : s.framebuf = some f) (he : elementAt f k = some e) (ht : HalfOutcome f (halfOfElement e (halfAt k)) k s t) :
    Good t := by
  obtain ⟨hpos, hreq, htrace, -, hresult⟩ := h
  have ho := hasOther_of_positionGood hpos hx hf
  have hs := schedule_getElem?_of_elementAt ho he
  obtain ⟨op, hop, -⟩ := requester_of_run hreq hx
  exact ⟨positionGood_of_halfOutcome hf ho ht, requesterGood_of_halfOutcome hreq hx ht,
    traceGood_of_halfOutcome (trace_of_run htrace hx hf) hf ho hs ht, carrierGood_of_halfOutcome hf hs ht,
    resultGood_of_halfOutcome hresult hop ht⟩

/-- Settles O46: each part of the invariant is kept by a taken request and by a half-interval; it does not depend on the inbox. -/
theorem stepKeepsInvariant : Obligations.StepKeepsInvariant := by
  intro s t h hstep
  cases step_turn hstep with
  | reset rest hi ht => exact ht ▸ good_platformReset s.popInput
  | taken hp ht => exact good_of_taken (s := s.popInput) h ht
  | waited hq hb ht => subst ht; exact h
  | emitted e k f hq hx hf he ht => exact good_of_halfOutcome (s := s.popInput) h hx hf he ht

/-- Settles O45: the state after reset is a reset block. -/
theorem invariantHoldsAtReset : Obligations.InvariantHoldsAtReset := good_platformReset State.reset

/-! ### Control flow (R92) -/

/-- Taking a request never leads to Idle from elsewhere. -/
theorem tx_idle_of_taken {s t : State} (h : Taken s t) (hidle : t.tx = .idle) : s.tx = .idle := by
  cases h with
  | replied c r hr ht => subst ht; exact hidle
  | dropped hb ht => subst ht; exact hidle
  | rejected c op f hb ho ht => subst ht; cases hidle
  | started c op f hb ho hop ht => subst ht; cases hidle

/-- Taking a request leaves TX, or starts a validated frame, or aborts on a rejected one. -/
theorem tx_of_taken {s t : State} (h : Taken s t) :
    t.tx = s.tx ∨ (t.tx = .run 0 ∧ ∃ f, t.framebuf = some f ∧ hasOther f = false) ∨
      (t.tx = .aborted ∧ ∃ f, t.framebuf = some f ∧ hasOther f = true) := by
  cases h with
  | replied c r hr ht => subst ht; exact .inl rfl
  | dropped hb ht => subst ht; exact .inl rfl
  | rejected c op f hb ho ht => subst ht; exact .inr (.inr ⟨rfl, f, rfl, ho⟩)
  | started c op f hb ho hop ht => subst ht; exact .inr (.inl ⟨rfl, f, rfl, ho⟩)

/-- A half-interval leads to the next one, to Done from the last, or to Aborted. -/
theorem tx_of_halfOutcome {s t : State} {f : List Symbol} {h : Half} {k : Nat} (ht : HalfOutcome f h k s t) :
    (s.answer = .ok ∧
      ((k + 1 < 4 * f.length + 8 ∧ t.tx = .run (k + 1)) ∨ (k + 1 = 4 * f.length + 8 ∧ t.tx = .done))) ∨
    (s.answer = .fail ∧ t.tx = .aborted) := by
  cases ht with
  | passed ha hk ht => subst ht; exact .inl ⟨ha, .inl ⟨hk, rfl⟩⟩
  | completed ha hk ht => subst ht; exact .inl ⟨ha, .inr ⟨hk, rfl⟩⟩
  | failed ha ht => subst ht; exact .inr ⟨ha, rfl⟩

theorem tx_idle_of_step {s t : State} (h : step s = .next t) (hidle : t.tx = .idle) :
    s.tx = .idle ∨ ∃ rest, s.inbox = .reset :: rest := by
  cases step_turn h with
  | reset rest hi ht => exact .inr ⟨rest, hi⟩
  | taken hp ht => exact .inl (tx_idle_of_taken (s := s.popInput) ht hidle)
  | waited hq hb ht => subst ht; exact .inl hidle
  | emitted e k f hq hx hf he ht =>
    rcases tx_of_halfOutcome ht with ⟨-, ⟨-, htx⟩ | ⟨-, htx⟩⟩ | ⟨-, htx⟩ <;> cases hidle.symm.trans htx

theorem tx_of_step_ready {s t : State} (h : step s = .next t) (hb : s.busy = false)
    (hr : ∀ rest, s.inbox ≠ .reset :: rest) :
    t.tx = s.tx ∨ (t.tx = .run 0 ∧ ∃ f, t.framebuf = some f ∧ hasOther f = false) ∨
      (t.tx = .aborted ∧ ∃ f, t.framebuf = some f ∧ hasOther f = true) := by
  cases step_turn h with
  | reset rest hi ht => exact absurd hi (hr rest)
  | taken hp ht => exact tx_of_taken (s := s.popInput) ht
  | waited hq hb ht => subst ht; exact .inl rfl
  | emitted e k f hq hx => cases hb.symm.trans (busy_of_run hx)

/-- Settles O49: each clause is read off what a step with that input can do. -/
theorem controlFlow : Obligations.ControlFlow := by
  intro s t h
  refine ⟨?_, tx_idle_of_step h, ?_, ?_, ?_, tx_of_step_ready h⟩
  · rintro ⟨rest, hi⟩
    cases (resetLosesTheRequest s rest hi).symm.trans h
    rfl
  · intro k hx hp
    obtain ⟨htx, -⟩ := tx_framebuf_of_taken (taken_of_step hp h) (busy_of_run hx)
    exact htx.trans hx
  · intro k hx hq
    obtain ⟨e, f, hf, -, hout⟩ := halfOutcome_of_step hq hx h
    exact (tx_of_halfOutcome hout).imp_left fun ⟨ha, htx⟩ => ⟨ha, f, hf, htx⟩
  · intro hb hq
    cases (readyBlockWaits s hb hq).symm.trans h
    rfl

/-! ### Frames: what is not written -/

/-- A half-interval keeps FRAMEBUF while the transmission runs on, and discards the frame when it ends. -/
theorem framebuf_of_halfOutcome {s t : State} {f : List Symbol} {h : Half} {k : Nat} (ht : HalfOutcome f h k s t) :
    (t.busy = true → t.framebuf = s.framebuf) ∧ (t.busy = false → t.framebuf = none) := by
  cases ht with
  | passed ha hk ht => subst ht; exact ⟨fun _ => rfl, nofun⟩
  | completed ha hk ht => subst ht; exact ⟨nofun, fun _ => rfl⟩
  | failed ha ht => subst ht; exact ⟨nofun, fun _ => rfl⟩

/-- Settles O50: a taken request moves neither TX nor FRAMEBUF of a running block; a half-interval keeps the frame or ends the
transmission. -/
theorem frameBufferFixedWhileRunning : Obligations.FrameBufferFixedWhileRunning := by
  intro s t hb hr h
  cases step_turn h with
  | reset rest hi ht => exact absurd hi (hr rest)
  | taken hp ht =>
    obtain ⟨htx, hf⟩ := tx_framebuf_of_taken ht hb
    exact ⟨fun _ => hf, fun hb' => nomatch (hb'.symm.trans (busy_congr htx)).trans hb⟩
  | waited hq hb' ht => cases hb.symm.trans hb'
  | emitted e k f hq hx hf he ht => exact framebuf_of_halfOutcome (s := s.popInput) ht

/-- Settles O51: a reply and a mark leave the calls alone, and a latch moves the trace to the history. -/
theorem requestsMakeNoPrimitiveCall : Obligations.RequestsMakeNoPrimitiveCall := by
  intro s t i hi h
  cases taken_of_exec hi h with
  | replied c r hr ht => subst ht; exact ⟨rfl, rfl, rfl, rfl⟩
  | dropped hb ht => subst ht; exact ⟨rfl, rfl, rfl, rfl⟩
  | rejected c op f hb ho ht => subst ht; exact ⟨rfl, rfl, rfl, List.append_nil _⟩
  | started c op f hb ho hop ht => subst ht; exact ⟨rfl, rfl, rfl, List.append_nil _⟩

/-- A half-interval uses one answer and one draw, records its calls, and touches no input, command, mark or bound. -/
theorem calls_of_halfOutcome {s t : State} {f : List Symbol} {h : Half} {k : Nat} (ht : HalfOutcome f h k s t) :
    t.history = s.history ∧ t.cmd = s.cmd ∧ t.overlap = s.overlap ∧ t.inbox = s.inbox ∧ t.maxFrameLen = s.maxFrameLen ∧
      t.draws = s.draws + 1 ∧ t.answers = s.answers.tail ∧
      ((s.answer = .ok ∧ t.trace = s.trace ++ emittedCalls h) ∨
        (s.answer = .fail ∧ t.trace = s.trace ++ [.setCarrier h.level .fail])) := by
  cases ht with
  | passed ha hk ht => subst ht; exact ⟨rfl, rfl, rfl, rfl, rfl, rfl, rfl, .inl ⟨ha, rfl⟩⟩
  | completed ha hk ht => subst ht; exact ⟨rfl, rfl, rfl, rfl, rfl, rfl, rfl, .inl ⟨ha, rfl⟩⟩
  | failed ha ht => subst ht; exact ⟨rfl, rfl, rfl, rfl, rfl, rfl, rfl, .inr ⟨ha, rfl⟩⟩

/-- Settles O52: an element that answers is at one half-interval K, whose level and duration K's parity names. -/
theorem elementsMakeOneCallPair : Obligations.ElementsMakeOneCallPair := by
  intro s t e h
  obtain ⟨k, f, hx, -, -, hout⟩ := halfOutcome_of_exec h
  obtain ⟨hhist, hcmd, hover, hinbox, hmax, hdraws, hans, hcalls⟩ := calls_of_halfOutcome hout
  rw [emittedCalls, halfOfElement_halfAt_level, halfOfElement_halfAt_microseconds] at hcalls
  exact ⟨hhist, hcmd, hover, hinbox, hmax, hdraws, hans, k, hx, hcalls⟩

theorem accept_cmd (op : Op) (f : List Symbol) (s : State) : (s.accept op f).cmd = s.cmd := by
  rcases accept_cases op f s with ⟨-, h⟩ | ⟨-, h⟩ <;> rw [h] <;> rfl

/-- Settles O53: of the effects of an instruction only the snapshots of ENCODE and SEND write CMD. -/
theorem onlyEncodeAndSendWriteCommand : Obligations.OnlyEncodeAndSendWriteCommand := by
  intro s t i h hne
  cases exec_effect h with
  | encoded c fr hi hf ht => exact ⟨c.mode, c.temp, c.fan, ht ▸ rfl, .inl hi⟩
  | encodeFailed c hi hf ht => exact ⟨c.mode, c.temp, c.fan, ht ▸ rfl, .inl hi⟩
  | sendFailed c hi hb hf ht => exact ⟨c.mode, c.temp, c.fan, ht ▸ rfl, .inr hi⟩
  | sent c fr hi hb hf hm ht => exact ⟨c.mode, c.temp, c.fan, ht ▸ accept_cmd .send _ _, .inr hi⟩
  | dropped hi he hb ht => exact absurd (ht ▸ rfl) hne
  | transmitted f hi hb hm ht => exact absurd (ht ▸ accept_cmd .transmit f s) hne
  | emitted e k f hi hx hf he ht =>
    subst hi
    obtain ⟨-, hcmd, -⟩ := elementsMakeOneCallPair s t e h
    exact absurd hcmd hne

/-- Settles O54: a start, a mark and a half-interval before the last write no RESULT; every other effect writes it with one reply. -/
theorem resultWrittenOncePerOperation : Obligations.ResultWrittenOncePerOperation := by
  intro s t i hreq h
  rcases exec_cases h with ⟨e, k, f, -, hx, -, -, hout⟩ | htaken
  · obtain ⟨op, hop, -⟩ := requester_of_run hreq hx
    cases hout with
    | passed ha hk ht => subst ht; exact .inl ⟨rfl, rfl⟩
    | completed ha hk ht =>
      subst ht
      exact .inr ⟨⟨op, .ok, none⟩, by simp [afterHalf, hop], rfl, .inl ⟨rfl, rfl⟩⟩
    | failed ha ht =>
      subst ht
      exact .inr ⟨⟨op, .hardwareFailure, none⟩, by simp [afterFailedCall, hop], rfl, .inr (.inr ⟨rfl, rfl⟩)⟩
  · cases htaken with
    | replied c r hr ht =>
      subst ht
      refine .inr ⟨r, rfl, rfl, ?_⟩
      rcases hr with ⟨-, hres⟩ | ⟨-, hres⟩
      · exact .inl ⟨hres, congrArg Result.code hres⟩
      · exact .inr (.inl ⟨hres, congrArg Result.code hres⟩)
    | dropped hb ht => subst ht; exact .inl ⟨rfl, rfl⟩
    | rejected c op f hb ho ht => subst ht; exact .inr ⟨_, rfl, rfl, .inr (.inl ⟨rfl, rfl⟩)⟩
    | started c op f hb ho hop ht => subst ht; exact .inl ⟨rfl, rfl⟩

/-- Settles O56: no operation clears the mark or writes MAX_FRAME_LEN. -/
theorem overlapMarkStays : Obligations.OverlapMarkStays := by
  intro s t h
  cases step_turn h with
  | reset rest hi ht => subst ht; exact ⟨id, rfl⟩
  | taken hp ht =>
    cases ht with
    | replied c r hr ht => subst ht; exact ⟨id, rfl⟩
    | dropped hb ht => subst ht; exact ⟨fun _ => rfl, rfl⟩
    | rejected c op f hb ho ht => subst ht; exact ⟨id, rfl⟩
    | started c op f hb ho hop ht => subst ht; exact ⟨id, rfl⟩
  | waited hq hb ht => subst ht; exact ⟨id, rfl⟩
  | emitted e k f hq hx hf he ht =>
    obtain ⟨-, -, hover, -, hmax, -⟩ := calls_of_halfOutcome ht
    exact ⟨hover.trans, hmax⟩

/-! ### ENCODE beside a transmission (92 D29) -/

/-- What ENCODE of a command leaves of a state: the snapshot, RESULT and its reply (R65). -/
def afterEncode (c : Command) (s : State) : State :=
  { s with cmd := some c, result := (encodeReply c).result, replies := s.replies ++ [encodeReply c] }

theorem exec_encode_eq_afterEncode (mode : ModeArg) (temp fan : Int) (s : State) :
    exec (.encode mode temp fan) s = .next (afterEncode ⟨mode, temp, fan⟩ s) := by
  rw [exec_encode]
  rcases execEncode_cases mode temp fan s with ⟨fr, hf, hr⟩ | ⟨hf, hr⟩
  · rw [hr, afterEncode, encodeReply, hf]; rfl
  · rw [hr, afterEncode, encodeReply, hf]; rfl

theorem encodeReply_op (c : Command) : (encodeReply c).op = .encode := by
  rw [encodeReply]; split <;> rfl

/-- A half-interval after an ENCODE has the outcome it has without it, but for CMD, the ENCODE's reply before its own, and RESULT,
which only the end of the transmission writes. -/
theorem emitHalf_afterEncode {s t : State} {f : List Symbol} {h : Half} {k : Nat} (hf : s.framebuf = some f)
    (hk : k < 4 * f.length + 8) (ht : HalfOutcome f h k s t) (c : Command) :
    (afterEncode c s).emitHalf h k =
      { t with
        cmd := some c
        result := if t.busy then (afterEncode c s).result else t.result
        replies := (afterEncode c s).replies ++ t.replies.drop s.replies.length } := by
  cases ht with
  | passed ha hk ht =>
    have hbusy : State.busy { afterHalf h s with tx := .run (k + 1) } = true := rfl
    rw [ht, emitHalf_passed (s := afterEncode c s) hf hk ha, hbusy]
    simp [afterHalf, afterEncode]
  | completed ha hk ht =>
    have hbusy : (afterHalf h s).complete.busy = false := rfl
    rw [ht, emitHalf_completed (s := afterEncode c s) hf hk ha, hbusy]
    simp [afterHalf, afterEncode, State.complete, State.reply, State.finish, State.discardFrame]
  | failed ha ht =>
    have hbusy : ((afterFailedCall h s).raise .hardwareFailure s.requester).busy = false := rfl
    rw [ht, emitHalf_failed (s := afterEncode c s) hf hk ha, hbusy]
    simp [afterFailedCall, afterEncode, State.raise, State.reply, State.finish, State.discardFrame]

/-- Settles O55: ENCODE leaves the selection as it is, and the half-interval's outcome is compared case by case. -/
theorem encodeDoesNotDisturbTransmission : Obligations.EncodeDoesNotDisturbTransmission := by
  intro mode temp fan s t e h
  obtain ⟨k, f, hx, hf, he, hout⟩ := halfOutcome_of_exec h
  refine ⟨_, _, exec_encode_eq_afterEncode mode temp fan s, exec_instrOf (s := afterEncode ⟨mode, temp, fan⟩ s) hx hf he,
    ⟨encodeReply ⟨mode, temp, fan⟩, encodeReply_op _, rfl, rfl⟩, emitHalf_afterEncode hf (lt_of_elementAt he) hout _⟩

end Sys2Proof.Proofs
end

section
/-! PROOF of the family other, whole transmissions (spec/41_transmitter.md R85, R86, R91, R92): the half-intervals answered ok one
after the other, and then the last, a failing one, or whatever the platform answers. -/

namespace Sys2Proof.Proofs

open Sys2Proof.Machine Sys2Proof.Safety Sys2Proof.Laws

/-! ### Runs -/

/-- A run goes on from where a shorter one arrived, in any machine. -/
theorem machine_run_add (M : Host.Core) {m : Nat} {s t : M.State} (h : M.run m s = .next t) (n : Nat) :
    M.run (m + n) s = M.run n t := by
  induction m generalizing s with
  | zero => cases h; rw [Nat.zero_add]
  | succ m ih =>
    rw [Nat.succ_add]
    cases hs : M.step s with
    | next u =>
      rw [machine_run_succ M m hs] at h
      rw [machine_run_succ M (m + n) hs, ih h]
    | fault r => cases (machine_run_fault M m hs).symm.trans h
    | refused r => cases (machine_run_refused M m hs).symm.trans h

/-- A run and one step more. -/
theorem run_succ_last {n : Nat} {s t u : State} (h : Host.Core.run core n s = .next t) (hstep : step t = .next u) :
    Host.Core.run core (n + 1) s = .next u :=
  (machine_run_add core h 1).trans ((run_succ hstep).trans (run_zero u))

/-! ### The half-intervals before the end -/

/-- `s` after the first `k` half-intervals of the request for frame `f`, all answered ok: the line at level `l`, the answers
`rest` to come. -/
def afterHalves (f : List Symbol) (k : Nat) (l : Level) (rest : List Answer) (s : State) : State :=
  { s with
    tx := .run k
    carrier := l
    trace := s.trace ++ emittedTrace f k
    answers := rest
    draws := s.draws + k }

/-- Where nothing is presented, the own move executes the selected element and leaves the inbox empty. -/
theorem step_of_elementAt_of_nil {s : State} {k : Nat} {f : List Symbol} {e : Element} (hi : s.inbox = [])
    (hx : s.tx = .run k) (hf : s.framebuf = some f) (he : elementAt f k = some e) : step s = exec (instrOf e) s := by
  rw [step_of_elementAt (.inl hi) hx hf he, popInput_of_nil hi]

section Halves

variable {s : State} {f : List Symbol} (hx : s.tx = .run 0) (hf : s.framebuf = some f) (ho : hasOther f = false)
  (hi : s.inbox = [])

include hf ho hi in
/-- One half-interval more. -/
theorem step_afterHalves {k : Nat} (hk : k + 1 < 4 * f.length + 8) (l : Level) (rest : List Answer) :
    ∃ l', step (afterHalves f k l (.ok :: rest) s) = .next (afterHalves f (k + 1) l' rest s) := by
  obtain ⟨e, he⟩ := elementAt_isSome ho (Nat.lt_of_succ_lt hk)
  have hs := schedule_getElem?_of_elementAt ho he
  refine ⟨(halfOfElement e (halfAt k)).level, ?_⟩
  rw [step_of_elementAt_of_nil (s := afterHalves f k l (.ok :: rest) s) hi rfl hf he,
    exec_instrOf (s := afterHalves f k l (.ok :: rest) s) rfl hf he,
    emitHalf_passed (s := afterHalves f k l (.ok :: rest) s) hf hk rfl]
  simp only [afterHalves, afterHalf, emittedTrace_succ hs, List.append_assoc, Nat.add_assoc, List.tail_cons]

include hx hf ho hi in
/-- The first `k` half-intervals, none of them the last. -/
theorem run_afterHalves {k : Nat} (hk : k < 4 * f.length + 8) {rest : List Answer}
    (hans : s.answers = List.replicate k .ok ++ rest) :
    ∃ l, Host.Core.run core k s = .next (afterHalves f k l rest s) := by
  induction k generalizing rest with
  | zero =>
    refine ⟨s.carrier, ?_⟩
    have hsame : afterHalves f 0 s.carrier rest s = s := by
      simp [afterHalves, emittedTrace, ← hx, show rest = s.answers from hans.symm]
    rw [hsame, run_zero]
  | succ k ih =>
    have hans' : s.answers = List.replicate k .ok ++ (.ok :: rest) := by
      rw [hans, List.replicate_succ', List.append_assoc]; rfl
    obtain ⟨l, hrun⟩ := ih (Nat.lt_of_succ_lt hk) hans'
    obtain ⟨l', hstep⟩ := step_afterHalves hf ho hi hk l rest
    exact ⟨l', run_succ_last hrun hstep⟩

end Halves

theorem emittedTrace_full (f : List Symbol) : emittedTrace f (4 * f.length + 8) = (schedule f).flatMap emittedCalls := by
  rw [emittedTrace, ← schedule_length, List.take_length]

/-- Settles O58: all half-intervals but one pass, and the last completes. -/
theorem allOkTransmissionCompletes : Obligations.AllOkTransmissionCompletes := by
  intro s f op rest hx hf ho hi hop hans
  have hans' : s.answers = List.replicate (4 * f.length + 7) .ok ++ (.ok :: rest) := by
    rw [hans, List.replicate_succ', List.append_assoc]; rfl
  obtain ⟨l, hrun⟩ := run_afterHalves hx hf ho hi (Nat.lt_succ_self _) hans'
  have hlast := lastHalfCompletes (afterHalves f (4 * f.length + 7) l (.ok :: rest) s) f op rfl hf hop rfl
  have hstep := step_of_elementAt_of_nil (s := afterHalves f (4 * f.length + 7) l (.ok :: rest) s) hi rfl hf
    (elementAt_last f)
  have hcalls : (schedule f).flatMap emittedCalls =
      emittedTrace f (4 * f.length + 7) ++ [.setCarrier .off .ok, .delay 7450] := by
    rw [← emittedTrace_full, emittedTrace_succ (schedule_getElem?_of_elementAt ho (elementAt_last f)),
      halfAt_odd (by omega)]
    rfl
  rw [run_succ_last hrun (hstep.trans hlast), hcalls, ← List.append_assoc]
  rfl

/-- Settles O59: the half-intervals before K pass, and the call of half-interval K fails. -/
theorem firstFailureEndsTransmission : Obligations.FirstFailureEndsTransmission := by
  intro s f op k h rest hx hf ho hi hop hs hans
  obtain ⟨hk, -⟩ := List.getElem?_eq_some_iff.1 hs
  rw [schedule_length] at hk
  obtain ⟨e, he⟩ := elementAt_isSome ho hk
  cases hs.symm.trans (schedule_getElem?_of_elementAt ho he)
  obtain ⟨l, hrun⟩ := run_afterHalves hx hf ho hi hk hans
  have hfail := failedCallAborts e (afterHalves f k l (.fail :: rest) s) k f op rfl hf he hop rfl
  have hstep := step_of_elementAt_of_nil (s := afterHalves f k l (.fail :: rest) s) hi rfl hf he
  rw [run_succ_last hrun (hstep.trans hfail), halfOfElement_halfAt_level]
  rfl

/-- Settles O60: the own move never stops, and each one ends the transmission or leaves one half-interval less. -/
theorem transmissionEnds : Obligations.TransmissionEnds := by
  intro s f k hpos hx hf hi
  induction hd : 4 * f.length + 8 - k generalizing s k with
  | zero =>
    obtain ⟨g, hg, hk, -⟩ := hpos k hx
    cases hf.symm.trans hg
    omega
  | succ d ih =>
    have hq : quiet s := .inl hi
    obtain ⟨t, hstep⟩ := ownMoveNeverStops s hpos hq
    have hone : Host.Core.run core 1 s = .next t := (run_succ hstep).trans (run_zero t)
    obtain ⟨e, f', hf', he, hout⟩ := halfOutcome_of_step hq hx hstep
    cases hf.symm.trans hf'
    cases hout with
    | passed ha hk' ht =>
      have hpos' := stepKeepsPositionGood s t hpos hstep
      subst ht
      obtain ⟨n, u, hn, hrun, hu⟩ := ih _ (k + 1) hpos' rfl hf (congrArg List.tail hi) (by omega)
      exact ⟨n + 1, u, by omega, (run_succ hstep).trans hrun, hu⟩
    | completed ha hk' ht => exact ⟨1, t, by omega, hone, .inl (ht ▸ rfl)⟩
    | failed ha ht => exact ⟨1, t, by omega, hone, .inr (ht ▸ rfl)⟩

end Sys2Proof.Proofs
end
